-- ==== Sys2Proof/Word.lean ====
section
/-!
DEFINITION. The word types of the block: bytes, 16-bit words and the 6-bit condition-code register (00_scope.md R10, R13).
-/

namespace Sys2Proof

/-- An 8-bit byte: accumulators, memory cells, instruction bytes (R10). -/
abbrev Byte := BitVec 8

/-- A 16-bit word: PC, SP, IX and addresses (R10). -/
abbrev Word := BitVec 16

/-- The condition-code register: bit 0 C, bit 1 V, bit 2 Z, bit 3 N, bit 4 I, bit 5 H (10_state.md R37). -/
abbrev Cc := BitVec 6

end Sys2Proof
end

