-- ==== Sys2Proof/Machine/Bits.lean ====
section
/-!
DEFINITION. Byte order and extension, each written once (00_scope.md R13, R14; 20_memory.md R76).
-/

namespace Sys2Proof.Machine

/-- `hi:lo`, big-endian (R13, R76). -/
def wordOf (hi lo : Byte) : Word := hi ++ lo

/-- Bits 15:8 of a word, the byte at the lower address (R76). -/
def hiByte (w : Word) : Byte := w.extractLsb' 8 8

/-- Bits 7:0 of a word, the byte at the higher address (R76). -/
def loByte (w : Word) : Byte := w.extractLsb' 0 8

/-- `zext_16` (R14). -/
def zext16 (b : Byte) : Word := b.setWidth 16

/-- `sext_16` (R14). -/
def sext16 (b : Byte) : Word := b.signExtend 16

end Sys2Proof.Machine
end

