-- ==== Sys2Proof/Syntax.lean ====
section
/-!
DEFINITION. The instructions of the block as syntax: one constructor for each mnemonic of spec/opcode_table.json, the operand form
(addressing mode and operand bytes) as its argument (30_encoding.md R101, R120, R126; notes/assumptions/1.md).
-/

namespace Sys2Proof

/-- The operand of an instruction that reads one byte: immediate, direct, indexed, extended (30_encoding.md R109 to R112). -/
inductive Src8 where
  | imm (data : Byte)
  | dir (addr : Byte)
  | idx (off : Byte)
  | ext (addr : Word)
  deriving DecidableEq, Repr

/-- The operand of an instruction that reads a word (LDX, LDS, CPX): its immediate has two bytes (R101, R115). -/
inductive Src16 where
  | imm (data : Word)
  | dir (addr : Byte)
  | idx (off : Byte)
  | ext (addr : Word)
  deriving DecidableEq, Repr

/-- The destination of a store: direct, indexed, extended; a store has no immediate form (R121). -/
inductive Dst where
  | dir (addr : Byte)
  | idx (off : Byte)
  | ext (addr : Word)
  deriving DecidableEq, Repr

/-- The operand of the single-operand memory instructions, JMP and JSR: indexed and extended only (43_logic_shift.md R300,
44_control.md R367, R368). -/
inductive Ref where
  | idx (off : Byte)
  | ext (addr : Word)
  deriving DecidableEq, Repr

/-- The instructions (30_encoding.md R126). Each constructor names the rule that gives its effect. -/
inductive Instr where
  -- The illegal-opcode sentinel (30_encoding.md R118)
  /-- R118: one of the 59 illegal opcodes, `op`. -/
  | illegal (op : Byte)
  -- Loads, stores, transfers, clears (41_load_store_transfer.md)
  /-- R201: load accumulator A. -/
  | ldaa (src : Src8)
  /-- R202: load accumulator B. -/
  | ldab (src : Src8)
  /-- R203: store accumulator A. -/
  | staa (dst : Dst)
  /-- R204: store accumulator B. -/
  | stab (dst : Dst)
  /-- R205: load index register. -/
  | ldx (src : Src16)
  /-- R206: store index register. -/
  | stx (dst : Dst)
  /-- R207: load stack pointer. -/
  | lds (src : Src16)
  /-- R208: store stack pointer. -/
  | sts (dst : Dst)
  /-- R209: transfer A to B. -/
  | tab
  /-- R210: transfer B to A. -/
  | tba
  /-- R211: transfer A to the condition codes. -/
  | tap
  /-- R212: transfer the condition codes to A. -/
  | tpa
  /-- R213: transfer stack pointer to index register. -/
  | tsx
  /-- R214: transfer index register to stack pointer. -/
  | txs
  /-- R215: clear accumulator A. -/
  | clra
  /-- R216: clear accumulator B. -/
  | clrb
  /-- R217: clear a memory byte. -/
  | clr (ref : Ref)
  -- Arithmetic (42_arithmetic.md)
  /-- R241: add to A. -/
  | adda (src : Src8)
  /-- R242: add to B. -/
  | addb (src : Src8)
  /-- R243: add with carry to A. -/
  | adca (src : Src8)
  /-- R244: add with carry to B. -/
  | adcb (src : Src8)
  /-- R245: add B to A. -/
  | aba
  /-- R246: subtract from A. -/
  | suba (src : Src8)
  /-- R247: subtract from B. -/
  | subb (src : Src8)
  /-- R248: subtract with carry (borrow) from A. -/
  | sbca (src : Src8)
  /-- R249: subtract with carry from B. -/
  | sbcb (src : Src8)
  /-- R250: subtract B from A. -/
  | sba
  /-- R251: compare A with memory. -/
  | cmpa (src : Src8)
  /-- R252: compare B with memory. -/
  | cmpb (src : Src8)
  /-- R253: compare B with A. -/
  | cba
  /-- R254: negate A (two's complement). -/
  | nega
  /-- R255: negate B. -/
  | negb
  /-- R256: negate a memory byte. -/
  | neg (ref : Ref)
  /-- R257: increment A. -/
  | inca
  /-- R258: increment B. -/
  | incb
  /-- R259: increment a memory byte. -/
  | inc (ref : Ref)
  /-- R260: decrement A. -/
  | deca
  /-- R261: decrement B. -/
  | decb
  /-- R262: decrement a memory byte. -/
  | dec (ref : Ref)
  /-- R263: test A. -/
  | tsta
  /-- R264: test B. -/
  | tstb
  /-- R265: test a memory byte. -/
  | tst (ref : Ref)
  /-- R266: decimal-adjust A after a BCD addition. -/
  | daa
  /-- R267: compare index register. -/
  | cpx (src : Src16)
  /-- R268: increment index register. -/
  | inx
  /-- R269: decrement index register. -/
  | dex
  /-- R270: increment stack pointer. -/
  | ins
  /-- R271: decrement stack pointer. -/
  | des
  -- Logic, complement, shifts and rotates (43_logic_shift.md)
  /-- R301: AND memory into A. -/
  | anda (src : Src8)
  /-- R302: AND memory into B. -/
  | andb (src : Src8)
  /-- R303: bit test A. -/
  | bita (src : Src8)
  /-- R304: bit test B. -/
  | bitb (src : Src8)
  /-- R305: OR memory into A. -/
  | oraa (src : Src8)
  /-- R306: OR memory into B. -/
  | orab (src : Src8)
  /-- R307: exclusive-OR memory into A. -/
  | eora (src : Src8)
  /-- R308: exclusive-OR memory into B. -/
  | eorb (src : Src8)
  /-- R309: one's complement of A. -/
  | coma
  /-- R310: one's complement of B. -/
  | comb
  /-- R311: one's complement of a memory byte. -/
  | com (ref : Ref)
  /-- R312: arithmetic shift A left one bit. -/
  | asla
  /-- R313: arithmetic shift B left. -/
  | aslb
  /-- R314: arithmetic shift a memory byte left. -/
  | asl (ref : Ref)
  /-- R315: arithmetic shift A right one bit. -/
  | asra
  /-- R316: arithmetic shift B right. -/
  | asrb
  /-- R317: arithmetic shift a memory byte right. -/
  | asr (ref : Ref)
  /-- R318: logical shift A right one bit. -/
  | lsra
  /-- R319: logical shift B right. -/
  | lsrb
  /-- R320: logical shift a memory byte right. -/
  | lsr (ref : Ref)
  /-- R321: rotate A left through C. -/
  | rola
  /-- R322: rotate B left through C. -/
  | rolb
  /-- R323: rotate a memory byte left through C. -/
  | rol (ref : Ref)
  /-- R324: rotate A right through C. -/
  | rora
  /-- R325: rotate B right through C. -/
  | rorb
  /-- R326: rotate a memory byte right through C. -/
  | ror (ref : Ref)
  -- Branches, jumps, subroutines (44_control.md)
  /-- R351: branch always. -/
  | bra (off : Byte)
  /-- R352: branch if higher (unsigned). -/
  | bhi (off : Byte)
  /-- R353: branch if lower or same (unsigned). -/
  | bls (off : Byte)
  /-- R354: branch if carry clear (also "higher or same" after a compare). -/
  | bcc (off : Byte)
  /-- R355: branch if carry set ("lower" after a compare). -/
  | bcs (off : Byte)
  /-- R356: branch if not equal (Z clear). -/
  | bne (off : Byte)
  /-- R357: branch if equal (Z set): "BEQ taken iff Z=1". -/
  | beq (off : Byte)
  /-- R358: branch if overflow clear. -/
  | bvc (off : Byte)
  /-- R359: branch if overflow set. -/
  | bvs (off : Byte)
  /-- R360: branch if plus (N clear). -/
  | bpl (off : Byte)
  /-- R361: branch if minus (N set). -/
  | bmi (off : Byte)
  /-- R362: branch if greater or equal (signed). -/
  | bge (off : Byte)
  /-- R363: branch if less than (signed). -/
  | blt (off : Byte)
  /-- R364: branch if greater than (signed). -/
  | bgt (off : Byte)
  /-- R365: branch if less or equal (signed). -/
  | ble (off : Byte)
  /-- R366: branch to subroutine. -/
  | bsr (off : Byte)
  /-- R367: jump. -/
  | jmp (ref : Ref)
  /-- R368: jump to subroutine. -/
  | jsr (ref : Ref)
  /-- R369: return from subroutine. -/
  | rts
  -- Stack, condition codes, system (45_stack_cc_system.md)
  /-- R381: push A. -/
  | psha
  /-- R382: push B. -/
  | pshb
  /-- R383: pull A. -/
  | pula
  /-- R384: pull B. -/
  | pulb
  /-- R385: clear carry. -/
  | clc
  /-- R386: set carry. -/
  | sec
  /-- R387: clear overflow. -/
  | clv
  /-- R388: set overflow. -/
  | sev
  /-- R389: clear interrupt mask (enable IRQ). -/
  | cli
  /-- R390: set interrupt mask (disable IRQ). -/
  | sei
  /-- R391: no operation. -/
  | nop
  /-- R392: software interrupt. -/
  | swi
  /-- R393: return from interrupt. -/
  | rti
  /-- R394: wait for interrupt. -/
  | wai
  deriving DecidableEq, Repr

end Sys2Proof
end

