-- ==== Sys2Proof/WellFormed.lean ====
section
/-!
DEFINITION. Which instruction terms stand for something the decoder can give. The operand types already keep out the addressing
modes an instruction does not have; what is left to check is that the sentinel carries an illegal opcode (30_encoding.md R121).
-/

namespace Sys2Proof

/-- The 59 illegal opcode values (30_encoding.md R121). -/
def illegalOpcodes : List Byte :=
  [0x00, 0x02, 0x03, 0x04, 0x05, 0x12, 0x13, 0x14, 0x15, 0x18, 0x1A, 0x1C] ++
  [0x1D, 0x1E, 0x1F, 0x21, 0x38, 0x3A, 0x3C, 0x3D, 0x41, 0x42, 0x45, 0x4B] ++
  [0x4E, 0x51, 0x52, 0x55, 0x5B, 0x5E, 0x61, 0x62, 0x65, 0x6B, 0x71, 0x72] ++
  [0x75, 0x7B, 0x83, 0x87, 0x8F, 0x93, 0x9D, 0xA3, 0xB3, 0xC3, 0xC7, 0xCC] ++
  [0xCD, 0xCF, 0xD3, 0xDC, 0xDD, 0xE3, 0xEC, 0xED, 0xF3, 0xFC, 0xFD]

/-- Is the term an instruction the decoder can give? -/
def Instr.wellFormed : Instr → Bool
  | .illegal op => illegalOpcodes.contains op
  | .ldaa _ | .ldab _ | .staa _ | .stab _ | .ldx _ | .stx _ | .lds _ | .sts _ | .tab | .tba | .tap | .tpa | .tsx
  | .txs | .clra | .clrb | .clr _ | .adda _ | .addb _ | .adca _ | .adcb _ | .aba | .suba _ | .subb _ | .sbca _
  | .sbcb _ | .sba | .cmpa _ | .cmpb _ | .cba | .nega | .negb | .neg _ | .inca | .incb | .inc _ | .deca | .decb
  | .dec _ | .tsta | .tstb | .tst _ | .daa | .cpx _ | .inx | .dex | .ins | .des | .anda _ | .andb _ | .bita _
  | .bitb _ | .oraa _ | .orab _ | .eora _ | .eorb _ | .coma | .comb | .com _ | .asla | .aslb | .asl _ | .asra | .asrb
  | .asr _ | .lsra | .lsrb | .lsr _ | .rola | .rolb | .rol _ | .rora | .rorb | .ror _ | .bra _ | .bhi _ | .bls _
  | .bcc _ | .bcs _ | .bne _ | .beq _ | .bvc _ | .bvs _ | .bpl _ | .bmi _ | .bge _ | .blt _ | .bgt _ | .ble _
  | .bsr _ | .jmp _ | .jsr _ | .rts | .psha | .pshb | .pula | .pulb | .clc | .sec | .clv | .sev | .cli | .sei | .nop
  | .swi | .rti | .wai => true

end Sys2Proof
end

