-- ==== Sys2Proof/Decode.lean ====
section
/-!
DEFINITION. The decoder, total on any bytes and rejecting by name, and after it the encoder, each written from the opcode grid and
the formats of 30_encoding.md (R101, R102, R120, R121, R122, R126).
-/

namespace Sys2Proof

/-- What one cell of the opcode grid says: the format of the instruction and the instruction its operand bytes give (R101). -/
inductive Form where
  | inh (i : Instr)
  | imm8 (f : Byte → Instr)
  | imm16 (f : Word → Instr)
  | dir (f : Byte → Instr)
  | idx (f : Byte → Instr)
  | ext (f : Word → Instr)
  | rel (f : Byte → Instr)

/-- The number of operand bytes of a format (R101, R122). -/
def Form.operandBytes : Form → Nat
  | .inh _ => 0
  | .imm8 _ | .dir _ | .idx _ | .rel _ => 1
  | .imm16 _ | .ext _ => 2

/-- The instruction of a format with byte 1 and byte 2, each used only where the format has it; two bytes are big-endian (R101, R112). -/
def Form.build : Form → Byte → Byte → Instr
  | .inh i, _, _ => i
  | .imm8 f, b1, _ => f b1
  | .dir f, b1, _ => f b1
  | .idx f, b1, _ => f b1
  | .rel f, b1, _ => f b1
  | .imm16 f, b1, b2 => f (Machine.wordOf b1 b2)
  | .ext f, b1, b2 => f (Machine.wordOf b1 b2)

/-- An empty cell of the grid: the illegal-opcode sentinel, one byte long (R118, R121). -/
def ill (op : Byte) : Form := .inh (.illegal op)

/-- Row 0x0 of the grid of 30_encoding.md R120. -/
def opcodeRow0 : List Form :=
  [ill 0x00, .inh .nop, ill 0x02, ill 0x03, ill 0x04, ill 0x05, .inh .tap, .inh .tpa, .inh .inx, .inh .dex,
   .inh .clv, .inh .sev, .inh .clc, .inh .sec, .inh .cli, .inh .sei]

/-- Row 0x1 of the grid of 30_encoding.md R120. -/
def opcodeRow1 : List Form :=
  [.inh .sba, .inh .cba, ill 0x12, ill 0x13, ill 0x14, ill 0x15, .inh .tab, .inh .tba, ill 0x18, .inh .daa,
   ill 0x1A, .inh .aba, ill 0x1C, ill 0x1D, ill 0x1E, ill 0x1F]

/-- Row 0x2 of the grid of 30_encoding.md R120. -/
def opcodeRow2 : List Form :=
  [.rel .bra, ill 0x21, .rel .bhi, .rel .bls, .rel .bcc, .rel .bcs, .rel .bne, .rel .beq, .rel .bvc, .rel .bvs,
   .rel .bpl, .rel .bmi, .rel .bge, .rel .blt, .rel .bgt, .rel .ble]

/-- Row 0x3 of the grid of 30_encoding.md R120. -/
def opcodeRow3 : List Form :=
  [.inh .tsx, .inh .ins, .inh .pula, .inh .pulb, .inh .des, .inh .txs, .inh .psha, .inh .pshb, ill 0x38,
   .inh .rts, ill 0x3A, .inh .rti, ill 0x3C, ill 0x3D, .inh .wai, .inh .swi]

/-- Row 0x4 of the grid of 30_encoding.md R120. -/
def opcodeRow4 : List Form :=
  [.inh .nega, ill 0x41, ill 0x42, .inh .coma, .inh .lsra, ill 0x45, .inh .rora, .inh .asra, .inh .asla,
   .inh .rola, .inh .deca, ill 0x4B, .inh .inca, .inh .tsta, ill 0x4E, .inh .clra]

/-- Row 0x5 of the grid of 30_encoding.md R120. -/
def opcodeRow5 : List Form :=
  [.inh .negb, ill 0x51, ill 0x52, .inh .comb, .inh .lsrb, ill 0x55, .inh .rorb, .inh .asrb, .inh .aslb,
   .inh .rolb, .inh .decb, ill 0x5B, .inh .incb, .inh .tstb, ill 0x5E, .inh .clrb]

/-- Row 0x6 of the grid of 30_encoding.md R120. -/
def opcodeRow6 : List Form :=
  [.idx fun b => .neg (.idx b), ill 0x61, ill 0x62, .idx fun b => .com (.idx b), .idx fun b => .lsr (.idx b),
   ill 0x65, .idx fun b => .ror (.idx b), .idx fun b => .asr (.idx b), .idx fun b => .asl (.idx b),
   .idx fun b => .rol (.idx b), .idx fun b => .dec (.idx b), ill 0x6B, .idx fun b => .inc (.idx b),
   .idx fun b => .tst (.idx b), .idx fun b => .jmp (.idx b), .idx fun b => .clr (.idx b)]

/-- Row 0x7 of the grid of 30_encoding.md R120. -/
def opcodeRow7 : List Form :=
  [.ext fun w => .neg (.ext w), ill 0x71, ill 0x72, .ext fun w => .com (.ext w), .ext fun w => .lsr (.ext w),
   ill 0x75, .ext fun w => .ror (.ext w), .ext fun w => .asr (.ext w), .ext fun w => .asl (.ext w),
   .ext fun w => .rol (.ext w), .ext fun w => .dec (.ext w), ill 0x7B, .ext fun w => .inc (.ext w),
   .ext fun w => .tst (.ext w), .ext fun w => .jmp (.ext w), .ext fun w => .clr (.ext w)]

/-- Row 0x8 of the grid of 30_encoding.md R120. -/
def opcodeRow8 : List Form :=
  [.imm8 fun b => .suba (.imm b), .imm8 fun b => .cmpa (.imm b), .imm8 fun b => .sbca (.imm b), ill 0x83,
   .imm8 fun b => .anda (.imm b), .imm8 fun b => .bita (.imm b), .imm8 fun b => .ldaa (.imm b), ill 0x87,
   .imm8 fun b => .eora (.imm b), .imm8 fun b => .adca (.imm b), .imm8 fun b => .oraa (.imm b),
   .imm8 fun b => .adda (.imm b), .imm16 fun w => .cpx (.imm w), .rel .bsr, .imm16 fun w => .lds (.imm w),
   ill 0x8F]

/-- Row 0x9 of the grid of 30_encoding.md R120. -/
def opcodeRow9 : List Form :=
  [.dir fun b => .suba (.dir b), .dir fun b => .cmpa (.dir b), .dir fun b => .sbca (.dir b), ill 0x93,
   .dir fun b => .anda (.dir b), .dir fun b => .bita (.dir b), .dir fun b => .ldaa (.dir b),
   .dir fun b => .staa (.dir b), .dir fun b => .eora (.dir b), .dir fun b => .adca (.dir b),
   .dir fun b => .oraa (.dir b), .dir fun b => .adda (.dir b), .dir fun b => .cpx (.dir b), ill 0x9D,
   .dir fun b => .lds (.dir b), .dir fun b => .sts (.dir b)]

/-- Row 0xA of the grid of 30_encoding.md R120. -/
def opcodeRowA : List Form :=
  [.idx fun b => .suba (.idx b), .idx fun b => .cmpa (.idx b), .idx fun b => .sbca (.idx b), ill 0xA3,
   .idx fun b => .anda (.idx b), .idx fun b => .bita (.idx b), .idx fun b => .ldaa (.idx b),
   .idx fun b => .staa (.idx b), .idx fun b => .eora (.idx b), .idx fun b => .adca (.idx b),
   .idx fun b => .oraa (.idx b), .idx fun b => .adda (.idx b), .idx fun b => .cpx (.idx b),
   .idx fun b => .jsr (.idx b), .idx fun b => .lds (.idx b), .idx fun b => .sts (.idx b)]

/-- Row 0xB of the grid of 30_encoding.md R120. -/
def opcodeRowB : List Form :=
  [.ext fun w => .suba (.ext w), .ext fun w => .cmpa (.ext w), .ext fun w => .sbca (.ext w), ill 0xB3,
   .ext fun w => .anda (.ext w), .ext fun w => .bita (.ext w), .ext fun w => .ldaa (.ext w),
   .ext fun w => .staa (.ext w), .ext fun w => .eora (.ext w), .ext fun w => .adca (.ext w),
   .ext fun w => .oraa (.ext w), .ext fun w => .adda (.ext w), .ext fun w => .cpx (.ext w),
   .ext fun w => .jsr (.ext w), .ext fun w => .lds (.ext w), .ext fun w => .sts (.ext w)]

/-- Row 0xC of the grid of 30_encoding.md R120. -/
def opcodeRowC : List Form :=
  [.imm8 fun b => .subb (.imm b), .imm8 fun b => .cmpb (.imm b), .imm8 fun b => .sbcb (.imm b), ill 0xC3,
   .imm8 fun b => .andb (.imm b), .imm8 fun b => .bitb (.imm b), .imm8 fun b => .ldab (.imm b), ill 0xC7,
   .imm8 fun b => .eorb (.imm b), .imm8 fun b => .adcb (.imm b), .imm8 fun b => .orab (.imm b),
   .imm8 fun b => .addb (.imm b), ill 0xCC, ill 0xCD, .imm16 fun w => .ldx (.imm w), ill 0xCF]

/-- Row 0xD of the grid of 30_encoding.md R120. -/
def opcodeRowD : List Form :=
  [.dir fun b => .subb (.dir b), .dir fun b => .cmpb (.dir b), .dir fun b => .sbcb (.dir b), ill 0xD3,
   .dir fun b => .andb (.dir b), .dir fun b => .bitb (.dir b), .dir fun b => .ldab (.dir b),
   .dir fun b => .stab (.dir b), .dir fun b => .eorb (.dir b), .dir fun b => .adcb (.dir b),
   .dir fun b => .orab (.dir b), .dir fun b => .addb (.dir b), ill 0xDC, ill 0xDD, .dir fun b => .ldx (.dir b),
   .dir fun b => .stx (.dir b)]

/-- Row 0xE of the grid of 30_encoding.md R120. -/
def opcodeRowE : List Form :=
  [.idx fun b => .subb (.idx b), .idx fun b => .cmpb (.idx b), .idx fun b => .sbcb (.idx b), ill 0xE3,
   .idx fun b => .andb (.idx b), .idx fun b => .bitb (.idx b), .idx fun b => .ldab (.idx b),
   .idx fun b => .stab (.idx b), .idx fun b => .eorb (.idx b), .idx fun b => .adcb (.idx b),
   .idx fun b => .orab (.idx b), .idx fun b => .addb (.idx b), ill 0xEC, ill 0xED, .idx fun b => .ldx (.idx b),
   .idx fun b => .stx (.idx b)]

/-- Row 0xF of the grid of 30_encoding.md R120. -/
def opcodeRowF : List Form :=
  [.ext fun w => .subb (.ext w), .ext fun w => .cmpb (.ext w), .ext fun w => .sbcb (.ext w), ill 0xF3,
   .ext fun w => .andb (.ext w), .ext fun w => .bitb (.ext w), .ext fun w => .ldab (.ext w),
   .ext fun w => .stab (.ext w), .ext fun w => .eorb (.ext w), .ext fun w => .adcb (.ext w),
   .ext fun w => .orab (.ext w), .ext fun w => .addb (.ext w), ill 0xFC, ill 0xFD, .ext fun w => .ldx (.ext w),
   .ext fun w => .stx (.ext w)]

/-- The opcode grid, one row for each high nibble (R120). -/
def opcodeGrid : List (List Form) :=
  [opcodeRow0, opcodeRow1, opcodeRow2, opcodeRow3, opcodeRow4, opcodeRow5, opcodeRow6, opcodeRow7] ++
  [opcodeRow8, opcodeRow9, opcodeRowA, opcodeRowB, opcodeRowC, opcodeRowD, opcodeRowE, opcodeRowF]

/-- The cell of an opcode: total, a lookup by its value alone (R102, R122). The grid is full, so the last arm is never taken. -/
def formOf (op : Byte) : Form :=
  match opcodeGrid[op.toNat / 16]? with
  | some row =>
    match row[op.toNat % 16]? with
    | some f => f
    | none => ill op
  | none => ill op

/-- The length in bytes of the instruction an opcode begins (R100, R122). -/
def opcodeLength (op : Byte) : Nat := 1 + (formOf op).operandBytes

/-- Why a list of bytes is no instruction. Every opcode decodes (R102), so only missing bytes are refused. -/
inductive DecodeError where
  /-- There is no byte at all. -/
  | noOpcode
  /-- The opcode `op` has more operand bytes than are left. -/
  | missingOperand (op : Byte)
  deriving DecidableEq, Repr

/-- What the decoder answers: an instruction with the bytes after it, or a rejection by name. -/
inductive Decoded where
  | ok (i : Instr) (rest : List Byte)
  | rejected (e : DecodeError)
  deriving DecidableEq, Repr

/-- The decoder on bytes at ascending addresses (R101, R102). -/
def decode : List Byte → Decoded
  | [] => .rejected .noOpcode
  | op :: rest =>
    match (formOf op).operandBytes, rest with
    | 0, rest => .ok ((formOf op).build 0 0) rest
    | 1, b1 :: rest => .ok ((formOf op).build b1 0) rest
    | 2, b1 :: b2 :: rest => .ok ((formOf op).build b1 b2) rest
    | _, _ => .rejected (.missingOperand op)

/-- Rows 8 to F: immediate, direct, indexed, extended stand 0x10 apart, in that order (R120). -/
def encodeSrc8 (op : Byte) : Src8 → List Byte
  | .imm b => [op, b]
  | .dir b => [op + 0x10, b]
  | .idx b => [op + 0x20, b]
  | .ext w => [op + 0x30, Machine.hiByte w, Machine.loByte w]

/-- The same for a 16-bit operand, whose immediate has two bytes, high byte first (R101, R120). -/
def encodeSrc16 (op : Byte) : Src16 → List Byte
  | .imm w => [op, Machine.hiByte w, Machine.loByte w]
  | .dir b => [op + 0x10, b]
  | .idx b => [op + 0x20, b]
  | .ext w => [op + 0x30, Machine.hiByte w, Machine.loByte w]

/-- A store, from its direct opcode on (R120). -/
def encodeDst (op : Byte) : Dst → List Byte
  | .dir b => [op, b]
  | .idx b => [op + 0x10, b]
  | .ext w => [op + 0x20, Machine.hiByte w, Machine.loByte w]

/-- An indexed or extended operand, from the indexed opcode on (R120). -/
def encodeRef (op : Byte) : Ref → List Byte
  | .idx b => [op, b]
  | .ext w => [op + 0x10, Machine.hiByte w, Machine.loByte w]

/-- The encoder: the bytes of an instruction at ascending addresses (R101, R120, R126). The opcode written is that of the first
column of the instruction's Encoding line. -/
def encode : Instr → List Byte
  | .illegal op => [op]
  | .ldaa src => encodeSrc8 0x86 src
  | .ldab src => encodeSrc8 0xC6 src
  | .staa dst => encodeDst 0x97 dst
  | .stab dst => encodeDst 0xD7 dst
  | .ldx src => encodeSrc16 0xCE src
  | .stx dst => encodeDst 0xDF dst
  | .lds src => encodeSrc16 0x8E src
  | .sts dst => encodeDst 0x9F dst
  | .tab => [0x16]
  | .tba => [0x17]
  | .tap => [0x06]
  | .tpa => [0x07]
  | .tsx => [0x30]
  | .txs => [0x35]
  | .clra => [0x4F]
  | .clrb => [0x5F]
  | .clr ref => encodeRef 0x6F ref
  | .adda src => encodeSrc8 0x8B src
  | .addb src => encodeSrc8 0xCB src
  | .adca src => encodeSrc8 0x89 src
  | .adcb src => encodeSrc8 0xC9 src
  | .aba => [0x1B]
  | .suba src => encodeSrc8 0x80 src
  | .subb src => encodeSrc8 0xC0 src
  | .sbca src => encodeSrc8 0x82 src
  | .sbcb src => encodeSrc8 0xC2 src
  | .sba => [0x10]
  | .cmpa src => encodeSrc8 0x81 src
  | .cmpb src => encodeSrc8 0xC1 src
  | .cba => [0x11]
  | .nega => [0x40]
  | .negb => [0x50]
  | .neg ref => encodeRef 0x60 ref
  | .inca => [0x4C]
  | .incb => [0x5C]
  | .inc ref => encodeRef 0x6C ref
  | .deca => [0x4A]
  | .decb => [0x5A]
  | .dec ref => encodeRef 0x6A ref
  | .tsta => [0x4D]
  | .tstb => [0x5D]
  | .tst ref => encodeRef 0x6D ref
  | .daa => [0x19]
  | .cpx src => encodeSrc16 0x8C src
  | .inx => [0x08]
  | .dex => [0x09]
  | .ins => [0x31]
  | .des => [0x34]
  | .anda src => encodeSrc8 0x84 src
  | .andb src => encodeSrc8 0xC4 src
  | .bita src => encodeSrc8 0x85 src
  | .bitb src => encodeSrc8 0xC5 src
  | .oraa src => encodeSrc8 0x8A src
  | .orab src => encodeSrc8 0xCA src
  | .eora src => encodeSrc8 0x88 src
  | .eorb src => encodeSrc8 0xC8 src
  | .coma => [0x43]
  | .comb => [0x53]
  | .com ref => encodeRef 0x63 ref
  | .asla => [0x48]
  | .aslb => [0x58]
  | .asl ref => encodeRef 0x68 ref
  | .asra => [0x47]
  | .asrb => [0x57]
  | .asr ref => encodeRef 0x67 ref
  | .lsra => [0x44]
  | .lsrb => [0x54]
  | .lsr ref => encodeRef 0x64 ref
  | .rola => [0x49]
  | .rolb => [0x59]
  | .rol ref => encodeRef 0x69 ref
  | .rora => [0x46]
  | .rorb => [0x56]
  | .ror ref => encodeRef 0x66 ref
  | .bra off => [0x20, off]
  | .bhi off => [0x22, off]
  | .bls off => [0x23, off]
  | .bcc off => [0x24, off]
  | .bcs off => [0x25, off]
  | .bne off => [0x26, off]
  | .beq off => [0x27, off]
  | .bvc off => [0x28, off]
  | .bvs off => [0x29, off]
  | .bpl off => [0x2A, off]
  | .bmi off => [0x2B, off]
  | .bge off => [0x2C, off]
  | .blt off => [0x2D, off]
  | .bgt off => [0x2E, off]
  | .ble off => [0x2F, off]
  | .bsr off => [0x8D, off]
  | .jmp ref => encodeRef 0x6E ref
  | .jsr ref => encodeRef 0xAD ref
  | .rts => [0x39]
  | .psha => [0x36]
  | .pshb => [0x37]
  | .pula => [0x32]
  | .pulb => [0x33]
  | .clc => [0x0C]
  | .sec => [0x0D]
  | .clv => [0x0A]
  | .sev => [0x0B]
  | .cli => [0x0E]
  | .sei => [0x0F]
  | .nop => [0x01]
  | .swi => [0x3F]
  | .rti => [0x3B]
  | .wai => [0x3E]

/-- The bytes of a table word, least significant byte first in the number and first in memory: the opcode, then two operand bytes. -/
def tableBytes (nbits w : Nat) : List Byte :=
  [BitVec.ofNat 8 (w % 2 ^ nbits), BitVec.ofNat 8 (w % 2 ^ nbits / 256), BitVec.ofNat 8 (w % 2 ^ nbits / 65536)]

/-- The instruction this decoder reads from a word of spec/opcode_table.json of `nbits` bits, the bits above them zero. -/
def decodeTableWord (nbits w : Nat) : Option Instr :=
  match decode (tableBytes nbits w) with
  | .ok i _ => some i
  | .rejected _ => none

end Sys2Proof
end

