-- ==== Sys2Proof/Config.lean ====
section
/-!
DEFINITION. What an implementation or its platform fixes: the named parameters of 00_scope.md R12, the bus regions, and the one
free value of the model, what a device window answers (20_memory.md R72).
-/

namespace Sys2Proof

/-- One bus transaction, the only kind of contact the block has with memory (20_memory.md R71, R73). -/
inductive BusAccess where
  /-- `load8(addr)` returned `value`. -/
  | read (addr : Word) (value : Byte)
  /-- `store8(addr, value)`. -/
  | write (addr : Word) (value : Byte)
  deriving DecidableEq, Repr

/-- What stands behind an address of the bus (20_memory.md R82, R72; notes/assumptions/4.md). -/
inductive BusKind where
  /-- A load gives the byte last stored. -/
  | ram
  /-- A load gives the byte the platform put there; a store does nothing. -/
  | rom
  /-- A load gives whatever the device answers; a store only reaches the device. -/
  | device
  deriving DecidableEq, Repr

/-- A window of the address space: `size` addresses from `base` on. -/
structure Region where
  base : Nat
  size : Nat
  kind : BusKind
  deriving DecidableEq, Repr

/-- `DAA_V_NO_CORR`: V after a DAA that applies no upper correction (40_alu.md R156, D9). -/
inductive DaaVRule where
  | clear
  | preserve
  deriving DecidableEq, Repr

/-- `CPX_V_RULE`: the overflow rule of the 16-bit subtract (40_alu.md R160, D10). -/
inductive CpxVRule where
  | lowByteOverflow
  | highByteOverflow
  deriving DecidableEq, Repr

/-- `INIT_STATE`: the registers at the first powerOn (70_reset_and_hazards.md R461, D18). Bit 4 (I) of `cc` is not used: powerOn sets I. -/
structure InitState where
  a  : Byte
  b  : Byte
  ix : Word
  sp : Word
  cc : Cc
  deriving DecidableEq, Repr

/-- The named parameters a model takes as arguments (00_scope.md R12). They stand in the state, where no step changes them, so
that a statement about every state holds for every value of every parameter (notes/assumptions/2.md). -/
structure Config where
  /-- `CC_HIGH_BITS`: bits 7:6 of CC read as a byte (10_state.md R41, D3). -/
  ccHighBits        : BitVec 2
  /-- `DAA_V_NO_CORR` (D9). -/
  daaVNoCorr        : DaaVRule
  /-- `CPX_V_RULE` (D10). -/
  cpxVRule          : CpxVRule
  /-- `TSX_TXS_ADJUST`, 0 or 1 (D13). -/
  tsxTxsAdjust      : Fin 2
  /-- `WAI_WAKE_ON_RESET` (D15). -/
  waiWakeOnReset    : Bool
  /-- `NMI_CLEARED_BY_RESET` (D20). -/
  nmiClearedByReset : Bool
  /-- `INIT_STATE` (D18). -/
  init              : InitState
  /-- `Bus`: the windows that are not RAM; the first region that holds an address decides (D23). -/
  regions           : List Region
  deriving DecidableEq, Repr

/-- FREE VALUE (notes/assumptions/4.md): the byte a device window answers, a function of the history of the transactions that
reached a device (newest first) and the address. It has no body, so nothing can be proved of it (20_memory.md R72, R442). -/
opaque Config.deviceByte : List BusAccess → Word → Byte

end Sys2Proof
end

