-- ==== Sys2Proof/Machine/Flags.lean ====
section
/-!
DEFINITION. The ALU and condition-code engine (40_alu.md): every operation as a pure function giving a result and the new condition
codes, the merge under a mask, and the branch conditions.
-/

namespace Sys2Proof.Machine

/-- The flags, by bit of CC (10_state.md R37). -/
def flagC (cc : Cc) : Bool := cc.getLsbD 0
def flagV (cc : Cc) : Bool := cc.getLsbD 1
def flagZ (cc : Cc) : Bool := cc.getLsbD 2
def flagN (cc : Cc) : Bool := cc.getLsbD 3
def flagI (cc : Cc) : Bool := cc.getLsbD 4
def flagH (cc : Cc) : Bool := cc.getLsbD 5

/-- A condition-code value from its flags, H first (R37). -/
def packCc (h i n z v c : Bool) : Cc :=
  (if h then 0x20 else 0) ||| (if i then 0x10 else 0) ||| (if n then 0x08 else 0) |||
    (if z then 0x04 else 0) ||| (if v then 0x02 else 0) ||| (if c then 0x01 else 0)

/-- Masks (R37, 00_scope.md R17). -/
def maskC : Cc := 0x01
def maskV : Cc := 0x02
def maskZ : Cc := 0x04
def maskI : Cc := 0x10
def maskNZV : Cc := 0x0E
def maskNZVC : Cc := 0x0F
def maskHNZVC : Cc := 0x2F
def maskAll : Cc := 0x3F

/-- `SetCC(mask, new)` on a condition-code value (00_scope.md R17, 40_alu.md R140). -/
def setCc (old mask new : Cc) : Cc := (old &&& ~~~mask) ||| (new &&& mask)

/-- An ALU operation's result and new condition codes, in which bits it does not define are 0 (40_alu.md R140). -/
structure Alu (w : Nat) where
  r   : BitVec w
  new : Cc
  deriving DecidableEq, Repr

/-- `ADD8(a, b, cin)` on unbounded integers (R141). -/
def add8 (a b : Byte) (cin : Bool) : Alu 8 :=
  let s := a.toNat + b.toNat + cin.toNat
  let v := a.toInt + b.toInt + cin.toNat
  let r := BitVec.ofNat 8 s
  { r   := r
    new := packCc (decide (a.toNat % 16 + b.toNat % 16 + cin.toNat > 15)) false r.msb (r == 0)
             (decide (v < -128) || decide (v > 127)) (decide (s > 255)) }

/-- `SUB8(a, b, cin)` on unbounded integers; no H (R143). -/
def sub8 (a b : Byte) (cin : Bool) : Alu 8 :=
  let d := (a.toNat : Int) - b.toNat - cin.toNat
  let v := a.toInt - b.toInt - cin.toNat
  let r := BitVec.ofInt 8 d
  { r   := r
    new := packCc false false r.msb (r == 0) (decide (v < -128) || decide (v > 127))
             (decide (a.toNat < b.toNat + cin.toNat)) }

/-- Result and flags of the operations that define N and Z from the result and clear V; `c` is the new C (R146, R147, R148). -/
def logic8 (r : Byte) (c : Bool) : Alu 8 := { r := r, new := packCc false false r.msb (r == 0) false c }

/-- `AND8` (R146). -/
def and8 (a b : Byte) : Alu 8 := logic8 (a &&& b) false

/-- `OR8` (R146). -/
def or8 (a b : Byte) : Alu 8 := logic8 (a ||| b) false

/-- `XOR8` (R146). -/
def xor8 (a b : Byte) : Alu 8 := logic8 (a ^^^ b) false

/-- `MOVE8` (R147). -/
def move8 (v : Byte) : Alu 8 := logic8 v false

/-- `COM8`: C is set (R148). -/
def com8 (a : Byte) : Alu 8 := logic8 (~~~a) true

/-- `NEG8(a) = SUB8(0, a, 0)` (R149). -/
def neg8 (a : Byte) : Alu 8 := sub8 0 a false

/-- The common flag rule of shifts and rotates: C the bit shifted out, V = N xor C (R150). -/
def shift8 (r : Byte) (out : Bool) : Alu 8 :=
  { r := r, new := packCc false false r.msb (r == 0) (r.msb ^^ out) out }

/-- `ASL8` (R151). -/
def asl8 (a : Byte) : Alu 8 := shift8 (a <<< 1) a.msb

/-- `ASR8`: bit 7 is kept (R152). -/
def asr8 (a : Byte) : Alu 8 := shift8 (a.sshiftRight 1) (a.getLsbD 0)

/-- `LSR8` (R153). -/
def lsr8 (a : Byte) : Alu 8 := shift8 (a >>> 1) (a.getLsbD 0)

/-- `ROL8(a, cin)` (R154). -/
def rol8 (a : Byte) (cin : Bool) : Alu 8 := shift8 (a.extractLsb' 0 7 ++ BitVec.ofBool cin) a.msb

/-- `ROR8(a, cin)` (R155). -/
def ror8 (a : Byte) (cin : Bool) : Alu 8 := shift8 (BitVec.ofBool cin ++ a.extractLsb' 1 7) (a.getLsbD 0)

/-- `DAA8(a, h, c)`: 0x06 on the whole byte, then 0x60 where the unreduced value exceeds 0x9F or C was set; `v` is V at the start, which
`DAA_V_NO_CORR = preserve` keeps where there is no upper correction (R156). -/
def daa8 (rule : DaaVRule) (a : Byte) (h c v : Bool) : Alu 8 :=
  let t := if decide (a.toNat % 16 > 9) || h then a.toNat + 0x06 else a.toNat
  let corr := decide (t > 0x9F) || c
  let r := BitVec.ofNat 8 (if corr then t + 0x60 else t)
  let newV := corr || (match rule with | .clear => false | .preserve => v)
  { r := r, new := packCc false false r.msb (r == 0) newV corr }

/-- `ADD16(a, b)`: only Z is defined (R158). -/
def add16 (a b : Word) : Alu 16 := { r := a + b, new := packCc false false false (a + b == 0) false false }

/-- `V16(a, b, r)` under `CPX_V_RULE` (R160): the signed difference of the low bytes against the low byte of the result, or the signed
difference of the high bytes less the borrow of the low bytes against its 8-bit range. -/
def v16 (rule : CpxVRule) (a b r : Word) : Bool :=
  match rule with
  | .lowByteOverflow => decide ((loByte a).toInt - (loByte b).toInt ≠ (loByte r).toInt)
  | .highByteOverflow =>
    let borrow : Int := if (loByte a).toNat < (loByte b).toNat then 1 else 0
    let d := (hiByte a).toInt - (hiByte b).toInt - borrow
    decide (d < -128) || decide (d > 127)

/-- `SUB16(a, b)`: N, Z and V16; C is not defined (R159). -/
def sub16 (rule : CpxVRule) (a b : Word) : Alu 16 :=
  { r := a - b, new := packCc false false (a - b).msb (a - b == 0) (v16 rule a b (a - b)) false }

/-- `MOVE16(v)` (R161). -/
def move16 (v : Word) : Alu 16 := { r := v, new := packCc false false v.msb (v == 0) false false }

/-- The fifteen branch conditions (R162). -/
inductive BranchCond where
  | always
  | hi
  | ls
  | cc
  | cs
  | ne
  | eq
  | vc
  | vs
  | pl
  | mi
  | ge
  | lt
  | gt
  | le
  deriving DecidableEq, Repr

/-- `taken(op, CC)` (R162). -/
def taken (k : BranchCond) (f : Cc) : Bool :=
  match k with
  | .always => true
  | .hi => !(flagC f || flagZ f)
  | .ls => flagC f || flagZ f
  | .cc => !flagC f
  | .cs => flagC f
  | .ne => !flagZ f
  | .eq => flagZ f
  | .vc => !flagV f
  | .vs => flagV f
  | .pl => !flagN f
  | .mi => flagN f
  | .ge => !(flagN f ^^ flagV f)
  | .lt => flagN f ^^ flagV f
  | .gt => !(flagZ f || (flagN f ^^ flagV f))
  | .le => flagZ f || (flagN f ^^ flagV f)

end Sys2Proof.Machine
end

