-- ==== Sys2Proof/Machine/Params.lean ====
section
/-!
DEFINITION. The values of the named parameters that the reset state carries: the spec's defaults (00_scope.md R12), and the model's own
choices for INIT_STATE and Bus (notes/assumptions/2.md, 4.md, 5.md).
-/

namespace Sys2Proof.Machine

/-- INIT_STATE of the reset state: zeros. DESIGN CHOICE, unsafe (notes/assumptions/5.md; the spec leaves it open, D18). -/
def zeroInit : InitState := { a := 0, b := 0, ix := 0, sp := 0, cc := 0 }

/-- The spec's defaults (R12: D3, D9, D10, D13, D15, D20), INIT_STATE zeros, and RAM behind every address (D23; DESIGN CHOICE, unsafe:
notes/assumptions/4.md, 5.md). -/
def defaultConfig : Config :=
  { ccHighBits        := 0b11
    daaVNoCorr        := .clear
    cpxVRule          := .lowByteOverflow
    tsxTxsAdjust      := 1
    waiWakeOnReset    := true
    nmiClearedByReset := false
    init              := zeroInit
    regions           := [] }

end Sys2Proof.Machine
end

