-- ==== Sys2Proof/Machine/State.lean ====
section
/-!
DEFINITION. The state of the block as plain data: everything 10_state.md names, the memory behind the bus, the parameters, and the
model's own fields (deviceLog, moves). The reasons a step can stop, and the state after reset.
-/

namespace Sys2Proof.Machine

/-- The run state (10_state.md R43). -/
inductive RunState where
  | off
  | running
  | waiting
  | halted
  deriving DecidableEq, Repr

/-- `IllegalOpcode(addr, opcode)`, one report of the diagnostic output (10_state.md R47, 30_encoding.md R118). -/
structure Report where
  addr   : Word
  opcode : Byte
  deriving DecidableEq, Repr

/-- The host's interactions with the block (60_exceptions.md R440). -/
inductive HostAction where
  | powerOn
  | powerOff
  | raiseIRQ
  | lowerIRQ
  | tripNMI
  | raiseRESET
  | lowerRESET
  | raiseHALT
  | lowerHALT
  /-- The wait of the dispatch agent is cancelled (R431, R440). -/
  | cancelWait
  deriving DecidableEq, Repr

/-- Who moves next: one host interaction, or one iteration of the block; neither falls inside the other (60_exceptions.md R441;
notes/assumptions/7.md). -/
inductive Move where
  | host (action : HostAction)
  | block
  deriving DecidableEq, Repr

/-- Memory: (address, byte) pairs, addresses strictly rising, no pair whose byte is what an unlisted address reads as. -/
abbrev Memory := List Host.Cell

/-- The machine. -/
@[ext]
structure State where
  /-- Accumulator A (R30). -/
  a : Byte
  /-- Accumulator B (R30). -/
  b : Byte
  /-- Index register (R31). -/
  ix : Word
  /-- Stack pointer: one below the byte pushed last (R32). -/
  sp : Word
  /-- Program counter: the next byte to fetch (R33, R34). -/
  pc : Word
  /-- Condition codes (R37). -/
  cc : Cc
  /-- Run state (R43). -/
  run : RunState
  /-- IRQ line, a level (R44). -/
  irqLine : Bool
  /-- NMI latch, set by an edge, consumed by its service (R44). -/
  nmiLatch : Bool
  /-- RESET line (R44). -/
  resetLine : Bool
  /-- HALT line (R44). -/
  haltLine : Bool
  /-- A RESET was raised and its reset action is still to come (R45). -/
  resetPending : Bool
  /-- The block has been powered on before (70_reset_and_hazards.md R460). -/
  poweredOnce : Bool
  /-- The bytes behind the bus (20_memory.md R70). -/
  mem : Memory
  /-- Diagnostic output, oldest report first (R47). -/
  reports : List Report
  /-- The bus transactions of the current step, oldest first (20_memory.md R85, R86; notes/assumptions/10.md). -/
  bus : List BusAccess
  /-- The transactions that reached a device window, newest first: what the free value of a device read is a function of
  (notes/assumptions/4.md). -/
  deviceLog : List BusAccess
  /-- The coming moves; when the list is empty the block moves (notes/assumptions/7.md). -/
  moves : List Move
  /-- The named parameters (00_scope.md R12), which no step changes (notes/assumptions/2.md). -/
  config : Config
  deriving DecidableEq, Repr

/-- Why the machine would stop with a fault: it never does. "The block raises no trap or fault of any kind from an instruction"
(60_exceptions.md R401), no address faults (20_memory.md R92) and every opcode decodes (30_encoding.md R102). -/
inductive Fault where
  deriving DecidableEq, Repr

/-- Why a meaning is refused. -/
inductive Refusal where
  /-- Raised by an arm of `exec` for an instruction of the opcode table that has no meaning yet. No arm does. Safe. -/
  | notModelled (mnemonic : String)
  /-- Raised by `Descriptor.execute` for a descriptor whose location and width do not go together (30_encoding.md R117, R119).
  Unreachable with the table of R126; no step raises it. Safe. -/
  | malformedDescriptor (opcode : Byte)
  deriving DecidableEq, Repr

/-- The machine right after the first powerOn (10_state.md R51, 70_reset_and_hazards.md R460): I set, Running, PC the word at 0xFFFE,
which is 0x0000 because nothing is listed in memory, and powerOn's two reads of the vector on the bus. A, B, IX, SP and the other
flags are INIT_STATE; the lines, which the host owns, are low (notes/assumptions/5.md, 6.md). -/
def State.reset : State :=
  { a            := zeroInit.a
    b            := zeroInit.b
    ix           := zeroInit.ix
    sp           := zeroInit.sp
    pc           := 0x0000
    cc           := 0b010000
    run          := .running
    irqLine      := false
    nmiLatch     := false
    resetLine    := false
    haltLine     := false
    resetPending := false
    poweredOnce  := true
    mem          := []
    reports      := []
    bus          := [.read 0xFFFE 0x00, .read 0xFFFF 0x00]
    deviceLog    := []
    moves        := []
    config       := defaultConfig }

end Sys2Proof.Machine
end

