-- ==== Sys2Proof/Machine/Ops.lean ====
section
/-!
DEFINITION. The named operations over memory, bus and registers: byte and word access, fetch, stack, condition codes, reports, the
entry into an interrupt or SWI and the return from it, power, reset action and the host's interactions (20_memory.md, 60_exceptions.md,
70_reset_and_hazards.md).
-/

namespace Sys2Proof.Machine

/-- What an address that memory does not list reads as. DESIGN CHOICE, unsafe: the spec leaves the initial bytes to `Bus`
(20_memory.md R72; notes/assumptions/3.md). -/
def unlistedByte : Byte := 0x00

/-- The byte at an address of memory. -/
def Memory.read : Memory → Nat → Byte
  | [], _ => unlistedByte
  | (k, x) :: m, a => if k = a then x else Memory.read m a

/-- Put a byte other than the unlisted one into its place. -/
def Memory.insert : Memory → Nat → Byte → Memory
  | [], a, v => [(a, v)]
  | (k, x) :: m, a, v =>
    if k < a then (k, x) :: Memory.insert m a v
    else if k = a then (a, v) :: m
    else (a, v) :: (k, x) :: m

/-- List an address no longer. -/
def Memory.erase (m : Memory) (a : Nat) : Memory := m.filter (fun c => c.1 != a)

/-- Store a byte, keeping the canonical form. -/
def Memory.write (m : Memory) (a : Nat) (v : Byte) : Memory :=
  if v = unlistedByte then Memory.erase m a else Memory.insert m a v

/-- The canonical form from an address on: addresses rising and inside the space, no byte equal to the unlisted one. -/
def Memory.wfFrom : Nat → Memory → Bool
  | _, [] => true
  | lo, (k, x) :: m => decide (lo ≤ k) && decide (k < 65536) && (x != unlistedByte) && Memory.wfFrom (k + 1) m

/-- The canonical form of memory. -/
def Memory.wf (m : Memory) : Bool := Memory.wfFrom 0 m

/-- What stands behind an address: the first region that holds it, else RAM (20_memory.md R82; notes/assumptions/4.md). -/
def busKind : List Region → Nat → BusKind
  | [], _ => .ram
  | g :: gs, a => if decide (g.base ≤ a) && decide (a < g.base + g.size) then g.kind else busKind gs a

/-- What stands behind an address of the state's bus. -/
def State.kindAt (s : State) (a : Word) : BusKind := busKind s.config.regions a.toNat

/-- The byte a load of `a` gives now (20_memory.md R72). -/
def State.byteAt (s : State) (a : Word) : Byte :=
  match s.kindAt a with
  | .ram => Memory.read s.mem a.toNat
  | .rom => Memory.read s.mem a.toNat
  | .device => Config.deviceByte s.deviceLog a

/-- The history of the device windows after a transaction at `addr`: only one that falls in a device window joins it. -/
def State.deviceLogAfter (s : State) (addr : Word) (x : BusAccess) : List BusAccess :=
  match s.kindAt addr with
  | .ram => s.deviceLog
  | .rom => s.deviceLog
  | .device => x :: s.deviceLog

/-- A transaction at `addr` happens: it joins the transactions of the step and, in a device window, the device's history (R85). -/
def State.logAccess (s : State) (addr : Word) (x : BusAccess) : State :=
  { s with bus := s.bus ++ [x], deviceLog := s.deviceLogAfter addr x }

/-- `load8(a)`, `MemRead(a, 1)`: one transaction (R71, R73). -/
def State.load8 (s : State) (a : Word) : Byte × State := (s.byteAt a, s.logAccess a (.read a (s.byteAt a)))

/-- Memory after a store of `v` at `a`: RAM keeps it, ROM and devices do not (R72). -/
def State.memAfterStore (s : State) (a : Word) (v : Byte) : Memory :=
  match s.kindAt a with
  | .ram => Memory.write s.mem a.toNat v
  | .rom => s.mem
  | .device => s.mem

/-- `store8(a, v)`, `MemWrite(a, 1, v)`: one transaction (R71, R73). -/
def State.store8 (s : State) (a : Word) (v : Byte) : State :=
  { s.logAccess a (.write a v) with mem := s.memAfterStore a v }

/-- `MemRead(a, 2)`: high byte at `a`, then low byte at `a + 1` mod 65536 (R74). -/
def State.load16 (s : State) (a : Word) : Word × State :=
  let (hi, s1) := s.load8 a
  let (lo, s2) := s1.load8 (a + 1)
  (wordOf hi lo, s2)

/-- `MemWrite(a, 2, v)`: high byte at `a`, then low byte at `a + 1` mod 65536 (R75). -/
def State.store16 (s : State) (a : Word) (v : Word) : State :=
  (s.store8 a (hiByte v)).store8 (a + 1) (loByte v)

/-- `Fetch8()` (R78). -/
def State.fetch8 (s : State) : Byte × State :=
  let (v, s1) := s.load8 s.pc
  (v, { s1 with pc := s.pc + 1 })

/-- `Push8(v)` (R79). -/
def State.push8 (s : State) (v : Byte) : State :=
  let s1 := { s with sp := s.sp - 1 }
  s1.store8 (s1.sp + 1) v

/-- `Push16(v)` (R79). -/
def State.push16 (s : State) (v : Word) : State :=
  let s1 := { s with sp := s.sp - 2 }
  s1.store16 (s1.sp + 1) v

/-- `Pull8()` (R80). -/
def State.pull8 (s : State) : Byte × State :=
  let s1 := { s with sp := s.sp + 1 }
  s1.load8 (s.sp + 1)

/-- `Pull16()` (R80). -/
def State.pull16 (s : State) : Word × State :=
  let s1 := { s with sp := s.sp + 2 }
  s1.load16 (s.sp + 1)

/-- `SetCC(mask, new)` (00_scope.md R17). -/
def State.setFlags (s : State) (mask new : Cc) : State := { s with cc := setCc s.cc mask new }

/-- `CCbyte = CC_HIGH_BITS : CC[5:0]` (10_state.md R41). -/
def State.ccByte (s : State) : Byte := s.config.ccHighBits ++ s.cc

/-- `CC <- byte[5:0]`: bits 7:6 are discarded (R41). -/
def ccOfByte (v : Byte) : Cc := v.extractLsb' 0 6

/-- `report IllegalOpcode(addr, opcode)` (00_scope.md R18, 30_encoding.md R118). -/
def State.report (s : State) (addr : Word) (opcode : Byte) : State :=
  { s with reports := s.reports ++ [{ addr := addr, opcode := opcode }] }

/-- The vectors (20_memory.md R82). -/
def irqVector : Word := 0xFFF8
def swiVector : Word := 0xFFFA
def nmiVector : Word := 0xFFFC
def resetVector : Word := 0xFFFE

/-- `PC <- MemRead(vector, 2)`. -/
def State.loadVector (s : State) (vector : Word) : State :=
  let (v, s1) := s.load16 vector
  { s1 with pc := v }

/-- `CC.I <- 1`. -/
def State.setI (s : State) : State := s.setFlags maskI maskI

/-- `EnterFrame(vector)`, shared by NMI, IRQ and SWI: push PC, IX, A, B, CCbyte, set I, load PC from the vector (60_exceptions.md R415). -/
def State.enterFrame (s : State) (vector : Word) : State :=
  ((((((s.push16 s.pc).push16 s.ix).push8 s.a).push8 s.b).push8 s.ccByte).setI).loadVector vector

/-- The return from interrupt: pull CC, B, A, IX, PC (45_stack_cc_system.md R393, 60_exceptions.md R419). -/
def State.returnFromInterrupt (s : State) : State :=
  let (c, s1) := s.pull8
  let (vb, s2) := s1.pull8
  let (va, s3) := s2.pull8
  let (vx, s4) := s3.pull16
  let (vp, s5) := s4.pull16
  { s5 with cc := ccOfByte c, b := vb, a := va, ix := vx, pc := vp }

/-- `haltAck` (10_state.md R46). -/
def State.haltAck (s : State) : Bool := decide (s.run = .halted) || decide (s.run = .off)

/-- The registers of INIT_STATE, at the first powerOn only (70_reset_and_hazards.md R460, R461). -/
def State.initRegisters (s : State) : State :=
  if s.poweredOnce then s
  else
    { s with
      a := s.config.init.a
      b := s.config.init.b
      ix := s.config.init.ix
      sp := s.config.init.sp
      cc := setCc s.config.init.cc maskI s.cc
      poweredOnce := true }

/-- `PowerOn` (70_reset_and_hazards.md R460); no effect unless Off (60_exceptions.md R430). -/
def State.powerOn (s : State) : State :=
  if s.run = .off then
    { (s.initRegisters.loadVector resetVector).setI with resetPending := false, run := .running }
  else s

/-- `powerOff`: Off, registers kept (60_exceptions.md R431). -/
def State.powerOff (s : State) : State := { s with run := .off }

/-- `ResetAction` (70_reset_and_hazards.md R463). -/
def State.resetAction (s : State) : State :=
  let s1 := (s.loadVector resetVector).setI
  { s1 with nmiLatch := s1.nmiLatch && !s1.config.nmiClearedByReset, resetPending := false }

/-- One host interaction (60_exceptions.md R440). Cancelling a wait is powerOff in Waiting and Halted and nothing elsewhere (R431;
notes/assumptions/12.md). -/
def State.hostAction (s : State) : HostAction → State
  | .powerOn => s.powerOn
  | .powerOff => s.powerOff
  | .raiseIRQ => { s with irqLine := true }
  | .lowerIRQ => { s with irqLine := false }
  | .tripNMI => { s with nmiLatch := true }
  | .raiseRESET => { s with resetLine := true, resetPending := true }
  | .lowerRESET => { s with resetLine := false }
  | .raiseHALT => { s with haltLine := true }
  | .lowerHALT => { s with haltLine := false }
  | .cancelWait => if s.run = .waiting ∨ s.run = .halted then s.powerOff else s

end Sys2Proof.Machine
end

