-- ==== Sys2Proof/Machine/Operands.lean ====
section
/-!
DEFINITION. The operand forms: effective addresses (30_encoding.md R108 to R114) and the reading of an operand, on instructions whose
operand bytes are already fetched (notes/assumptions/9.md).
-/

namespace Sys2Proof.Machine

/-- Direct: the byte, zero-extended (R110). -/
def directAddr (addr : Byte) : Word := zext16 addr

/-- Indexed: IX plus the unsigned offset, mod 65536 (R111). -/
def State.indexedAddr (s : State) (off : Byte) : Word := s.ix + zext16 off

/-- The effective address of a store's destination (R110 to R112). -/
def State.dstAddr (s : State) : Dst → Word
  | .dir addr => directAddr addr
  | .idx off => s.indexedAddr off
  | .ext addr => addr

/-- The effective address of an indexed or extended operand (R111, R112). -/
def State.refAddr (s : State) : Ref → Word
  | .idx off => s.indexedAddr off
  | .ext addr => addr

/-- The target of a relative branch, PC being already past the offset byte (R114). -/
def State.relativeTarget (s : State) (off : Byte) : Word := s.pc + sext16 off

/-- The byte operand: an immediate was read with the instruction; the other forms read their effective address (R109 to R112). -/
def State.readSrc8 (s : State) : Src8 → Byte × State
  | .imm data => (data, s)
  | .dir addr => s.load8 (directAddr addr)
  | .idx off => s.load8 (s.indexedAddr off)
  | .ext addr => s.load8 addr

/-- The word operand (R109 to R112, R115). -/
def State.readSrc16 (s : State) : Src16 → Word × State
  | .imm data => (data, s)
  | .dir addr => s.load16 (directAddr addr)
  | .idx off => s.load16 (s.indexedAddr off)
  | .ext addr => s.load16 addr

/-- The two accumulators. -/
inductive Acc where
  | a
  | b
  deriving DecidableEq, Repr

/-- Read an accumulator (10_state.md R30). -/
def State.acc (s : State) : Acc → Byte
  | .a => s.a
  | .b => s.b

/-- Write an accumulator (R30). -/
def State.setAcc (s : State) : Acc → Byte → State
  | .a, v => { s with a := v }
  | .b, v => { s with b := v }

end Sys2Proof.Machine
end

