-- ==== Sys2Proof/Machine/Shapes.lean ====
section
/-!
DEFINITION. The shapes the instructions share: operate on an accumulator and an operand, compare, change a register or a memory byte in
place, store, branch, call. Each meaning is one of them with its operation and its mask (41_load_store_transfer.md R200, 42_arithmetic.md
R240).
-/

namespace Sys2Proof.Machine

/-- What a meaning answers. -/
abbrev Answer := Host.Outcome State Fault Refusal

/-- Accumulator, operand, result into the accumulator, flags under the mask. -/
def accOperate (x : Acc) (mask : Cc) (f : Byte → Byte → Alu 8) (src : Src8) (s : State) : Answer :=
  let (m, s1) := s.readSrc8 src
  let o := f (s.acc x) m
  .next ((s1.setAcc x o.r).setFlags mask o.new)

/-- Accumulator, operand, flags only: the result goes to ConstantZero (30_encoding.md R104). -/
def accCompare (x : Acc) (mask : Cc) (f : Byte → Byte → Alu 8) (src : Src8) (s : State) : Answer :=
  let (m, s1) := s.readSrc8 src
  .next (s1.setFlags mask (f (s.acc x) m).new)

/-- An inherent operation whose result goes to an accumulator. -/
def accWrite (x : Acc) (mask : Cc) (o : Alu 8) (s : State) : Answer :=
  .next ((s.setAcc x o.r).setFlags mask o.new)

/-- An inherent operation that writes flags only. -/
def flagsOnly (mask new : Cc) (s : State) : Answer := .next (s.setFlags mask new)

/-- Read a memory byte, operate, write it back: one read, then one write (20_memory.md R86, R87). -/
def memOperate (mask : Cc) (f : Byte → Alu 8) (ref : Ref) (s : State) : Answer :=
  let ea := s.refAddr ref
  let (m, s1) := s.load8 ea
  let o := f m
  .next ((s1.store8 ea o.r).setFlags mask o.new)

/-- Store a byte and set flags from it: one write, no read (20_memory.md R86). -/
def storeByte (ea : Word) (mask : Cc) (o : Alu 8) (s : State) : Answer :=
  .next ((s.store8 ea o.r).setFlags mask o.new)

/-- Store a word and set N, Z, V from it: high byte, then low byte. -/
def storeWord (ea : Word) (v : Word) (s : State) : Answer :=
  .next ((s.store16 ea v).setFlags maskNZV (move16 v).new)

/-- A relative branch: PC is past the offset byte (44_control.md R350). -/
def branchOn (k : BranchCond) (off : Byte) (s : State) : Answer :=
  .next (if taken k s.cc then { s with pc := s.relativeTarget off } else s)

/-- Push the return address and go to `target` (44_control.md R366, R368). -/
def callTo (target : Word) (s : State) : Answer :=
  .next { s.push16 s.pc with pc := target }

end Sys2Proof.Machine
end

