-- ==== Sys2Proof/Machine/Arithmetic.lean ====
section
/-!
DEFINITION. Meanings of the arithmetic instructions (42_arithmetic.md).
-/

namespace Sys2Proof.Machine

/-- ADDA: add to A (R241). -/
def execAdda (src : Src8) (s : State) : Answer := accOperate .a maskHNZVC (fun r m => add8 r m false) src s

/-- ADDB: add to B (R242). -/
def execAddb (src : Src8) (s : State) : Answer := accOperate .b maskHNZVC (fun r m => add8 r m false) src s

/-- ADCA: add with carry to A (R243). -/
def execAdca (src : Src8) (s : State) : Answer := accOperate .a maskHNZVC (fun r m => add8 r m (flagC s.cc)) src s

/-- ADCB: add with carry to B (R244). -/
def execAdcb (src : Src8) (s : State) : Answer := accOperate .b maskHNZVC (fun r m => add8 r m (flagC s.cc)) src s

/-- ABA: add B to A (R245). -/
def execAba (s : State) : Answer := accWrite .a maskHNZVC (add8 s.a s.b false) s

/-- SUBA: subtract from A (R246). -/
def execSuba (src : Src8) (s : State) : Answer := accOperate .a maskNZVC (fun r m => sub8 r m false) src s

/-- SUBB: subtract from B (R247). -/
def execSubb (src : Src8) (s : State) : Answer := accOperate .b maskNZVC (fun r m => sub8 r m false) src s

/-- SBCA: subtract with carry (borrow) from A (R248). -/
def execSbca (src : Src8) (s : State) : Answer := accOperate .a maskNZVC (fun r m => sub8 r m (flagC s.cc)) src s

/-- SBCB: subtract with carry from B (R249). -/
def execSbcb (src : Src8) (s : State) : Answer := accOperate .b maskNZVC (fun r m => sub8 r m (flagC s.cc)) src s

/-- SBA: subtract B from A (R250). -/
def execSba (s : State) : Answer := accWrite .a maskNZVC (sub8 s.a s.b false) s

/-- CMPA: compare A with memory (R251). -/
def execCmpa (src : Src8) (s : State) : Answer := accCompare .a maskNZVC (fun r m => sub8 r m false) src s

/-- CMPB: compare B with memory (R252). -/
def execCmpb (src : Src8) (s : State) : Answer := accCompare .b maskNZVC (fun r m => sub8 r m false) src s

/-- CBA: compare B with A; the subtraction is A - B (R253). -/
def execCba (s : State) : Answer := flagsOnly maskNZVC (sub8 s.a s.b false).new s

/-- NEGA: negate A (two's complement) (R254). -/
def execNega (s : State) : Answer := accWrite .a maskNZVC (neg8 s.a) s

/-- NEGB: negate B (R255). -/
def execNegb (s : State) : Answer := accWrite .b maskNZVC (neg8 s.b) s

/-- NEG: negate a memory byte (R256). -/
def execNeg (ref : Ref) (s : State) : Answer := memOperate maskNZVC neg8 ref s

/-- INCA: increment A (R257). -/
def execInca (s : State) : Answer := accWrite .a maskNZV (add8 s.a 1 false) s

/-- INCB: increment B (R258). -/
def execIncb (s : State) : Answer := accWrite .b maskNZV (add8 s.b 1 false) s

/-- INC: increment a memory byte (R259). -/
def execInc (ref : Ref) (s : State) : Answer := memOperate maskNZV (fun m => add8 m 1 false) ref s

/-- DECA: decrement A (R260). -/
def execDeca (s : State) : Answer := accWrite .a maskNZV (sub8 s.a 1 false) s

/-- DECB: decrement B (R261). -/
def execDecb (s : State) : Answer := accWrite .b maskNZV (sub8 s.b 1 false) s

/-- DEC: decrement a memory byte (R262). -/
def execDec (ref : Ref) (s : State) : Answer := memOperate maskNZV (fun m => sub8 m 1 false) ref s

/-- TSTA: test A (R263). -/
def execTsta (s : State) : Answer := flagsOnly maskNZVC (sub8 s.a 0 false).new s

/-- TSTB: test B (R264). -/
def execTstb (s : State) : Answer := flagsOnly maskNZVC (sub8 s.b 0 false).new s

/-- TST: test a memory byte; one read and no write (R265). -/
def execTst (ref : Ref) (s : State) : Answer :=
  let (m, s1) := s.load8 (s.refAddr ref)
  .next (s1.setFlags maskNZVC (sub8 m 0 false).new)

/-- DAA: decimal-adjust A after a BCD addition (R266). -/
def execDaa (s : State) : Answer :=
  accWrite .a maskNZVC (daa8 s.config.daaVNoCorr s.a (flagH s.cc) (flagC s.cc) (flagV s.cc)) s

/-- CPX: compare index register (R267). -/
def execCpx (src : Src16) (s : State) : Answer :=
  let (m, s1) := s.readSrc16 src
  .next (s1.setFlags maskNZV (sub16 s.config.cpxVRule s.ix m).new)

/-- INX: increment index register (R268). -/
def execInx (s : State) : Answer := .next ({ s with ix := s.ix + 1 }.setFlags maskZ (add16 s.ix 1).new)

/-- DEX: decrement index register (R269). -/
def execDex (s : State) : Answer :=
  .next ({ s with ix := s.ix - 1 }.setFlags maskZ (sub16 s.config.cpxVRule s.ix 1).new)

/-- INS: increment stack pointer (R270). -/
def execIns (s : State) : Answer := .next { s with sp := s.sp + 1 }

/-- DES: decrement stack pointer (R271). -/
def execDes (s : State) : Answer := .next { s with sp := s.sp - 1 }

end Sys2Proof.Machine
end

