-- ==== Sys2Proof/Machine/Control.lean ====
section
/-!
DEFINITION. Meanings of the branches, jumps and subroutine instructions (44_control.md).
-/

namespace Sys2Proof.Machine

/-- BRA: branch always (R351). -/
def execBra (off : Byte) (s : State) : Answer := branchOn .always off s

/-- BHI: branch if higher (unsigned) (R352). -/
def execBhi (off : Byte) (s : State) : Answer := branchOn .hi off s

/-- BLS: branch if lower or same (unsigned) (R353). -/
def execBls (off : Byte) (s : State) : Answer := branchOn .ls off s

/-- BCC: branch if carry clear (also "higher or same" after a compare) (R354). -/
def execBcc (off : Byte) (s : State) : Answer := branchOn .cc off s

/-- BCS: branch if carry set ("lower" after a compare) (R355). -/
def execBcs (off : Byte) (s : State) : Answer := branchOn .cs off s

/-- BNE: branch if not equal (Z clear) (R356). -/
def execBne (off : Byte) (s : State) : Answer := branchOn .ne off s

/-- BEQ: branch if equal (Z set): "BEQ taken iff Z=1" (R357). -/
def execBeq (off : Byte) (s : State) : Answer := branchOn .eq off s

/-- BVC: branch if overflow clear (R358). -/
def execBvc (off : Byte) (s : State) : Answer := branchOn .vc off s

/-- BVS: branch if overflow set (R359). -/
def execBvs (off : Byte) (s : State) : Answer := branchOn .vs off s

/-- BPL: branch if plus (N clear) (R360). -/
def execBpl (off : Byte) (s : State) : Answer := branchOn .pl off s

/-- BMI: branch if minus (N set) (R361). -/
def execBmi (off : Byte) (s : State) : Answer := branchOn .mi off s

/-- BGE: branch if greater or equal (signed) (R362). -/
def execBge (off : Byte) (s : State) : Answer := branchOn .ge off s

/-- BLT: branch if less than (signed) (R363). -/
def execBlt (off : Byte) (s : State) : Answer := branchOn .lt off s

/-- BGT: branch if greater than (signed) (R364). -/
def execBgt (off : Byte) (s : State) : Answer := branchOn .gt off s

/-- BLE: branch if less or equal (signed) (R365). -/
def execBle (off : Byte) (s : State) : Answer := branchOn .le off s

/-- BSR: branch to subroutine (R366). -/
def execBsr (off : Byte) (s : State) : Answer := callTo (s.relativeTarget off) s

/-- JMP: jump; the byte at the target is not read (R367). -/
def execJmp (ref : Ref) (s : State) : Answer := .next { s with pc := s.refAddr ref }

/-- JSR: jump to subroutine; the target is computed before the push (R368). -/
def execJsr (ref : Ref) (s : State) : Answer := callTo (s.refAddr ref) s

/-- RTS: return from subroutine (R369). -/
def execRts (s : State) : Answer :=
  let (v, s1) := s.pull16
  .next { s1 with pc := v }

end Sys2Proof.Machine
end

