-- ==== Sys2Proof/Machine/Logic.lean ====
section
/-!
DEFINITION. Meanings of the logical, complement, shift and rotate instructions (43_logic_shift.md).
-/

namespace Sys2Proof.Machine

/-- ANDA: AND memory into A (R301). -/
def execAnda (src : Src8) (s : State) : Answer := accOperate .a maskNZV and8 src s

/-- ANDB: AND memory into B (R302). -/
def execAndb (src : Src8) (s : State) : Answer := accOperate .b maskNZV and8 src s

/-- BITA: bit test A (R303). -/
def execBita (src : Src8) (s : State) : Answer := accCompare .a maskNZV and8 src s

/-- BITB: bit test B (R304). -/
def execBitb (src : Src8) (s : State) : Answer := accCompare .b maskNZV and8 src s

/-- ORAA: OR memory into A (R305). -/
def execOraa (src : Src8) (s : State) : Answer := accOperate .a maskNZV or8 src s

/-- ORAB: OR memory into B (R306). -/
def execOrab (src : Src8) (s : State) : Answer := accOperate .b maskNZV or8 src s

/-- EORA: exclusive-OR memory into A (R307). -/
def execEora (src : Src8) (s : State) : Answer := accOperate .a maskNZV xor8 src s

/-- EORB: exclusive-OR memory into B (R308). -/
def execEorb (src : Src8) (s : State) : Answer := accOperate .b maskNZV xor8 src s

/-- COMA: one's complement of A (R309). -/
def execComa (s : State) : Answer := accWrite .a maskNZVC (com8 s.a) s

/-- COMB: one's complement of B (R310). -/
def execComb (s : State) : Answer := accWrite .b maskNZVC (com8 s.b) s

/-- COM: one's complement of a memory byte (R311). -/
def execCom (ref : Ref) (s : State) : Answer := memOperate maskNZVC com8 ref s

/-- ASLA: arithmetic shift A left one bit (R312). -/
def execAsla (s : State) : Answer := accWrite .a maskNZVC (asl8 s.a) s

/-- ASLB: arithmetic shift B left (R313). -/
def execAslb (s : State) : Answer := accWrite .b maskNZVC (asl8 s.b) s

/-- ASL: arithmetic shift a memory byte left (R314). -/
def execAsl (ref : Ref) (s : State) : Answer := memOperate maskNZVC asl8 ref s

/-- ASRA: arithmetic shift A right one bit (R315). -/
def execAsra (s : State) : Answer := accWrite .a maskNZVC (asr8 s.a) s

/-- ASRB: arithmetic shift B right (R316). -/
def execAsrb (s : State) : Answer := accWrite .b maskNZVC (asr8 s.b) s

/-- ASR: arithmetic shift a memory byte right (R317). -/
def execAsr (ref : Ref) (s : State) : Answer := memOperate maskNZVC asr8 ref s

/-- LSRA: logical shift A right one bit (R318). -/
def execLsra (s : State) : Answer := accWrite .a maskNZVC (lsr8 s.a) s

/-- LSRB: logical shift B right (R319). -/
def execLsrb (s : State) : Answer := accWrite .b maskNZVC (lsr8 s.b) s

/-- LSR: logical shift a memory byte right (R320). -/
def execLsr (ref : Ref) (s : State) : Answer := memOperate maskNZVC lsr8 ref s

/-- ROLA: rotate A left through C (R321). -/
def execRola (s : State) : Answer := accWrite .a maskNZVC (rol8 s.a (flagC s.cc)) s

/-- ROLB: rotate B left through C (R322). -/
def execRolb (s : State) : Answer := accWrite .b maskNZVC (rol8 s.b (flagC s.cc)) s

/-- ROL: rotate a memory byte left through C (R323). -/
def execRol (ref : Ref) (s : State) : Answer := memOperate maskNZVC (fun m => rol8 m (flagC s.cc)) ref s

/-- RORA: rotate A right through C (R324). -/
def execRora (s : State) : Answer := accWrite .a maskNZVC (ror8 s.a (flagC s.cc)) s

/-- RORB: rotate B right through C (R325). -/
def execRorb (s : State) : Answer := accWrite .b maskNZVC (ror8 s.b (flagC s.cc)) s

/-- ROR: rotate a memory byte right through C (R326). -/
def execRor (ref : Ref) (s : State) : Answer := memOperate maskNZVC (fun m => ror8 m (flagC s.cc)) ref s

end Sys2Proof.Machine
end

