-- ==== Sys2Proof/Machine/System.lean ====
section
/-!
DEFINITION. Meanings of the stack, condition-code and system instructions (45_stack_cc_system.md) and of the illegal-opcode sentinel
(30_encoding.md R118).
-/

namespace Sys2Proof.Machine

/-- PSHA: push A (R381). -/
def execPsha (s : State) : Answer := .next (s.push8 s.a)

/-- PSHB: push B (R382). -/
def execPshb (s : State) : Answer := .next (s.push8 s.b)

/-- PULA: pull A (R383). -/
def execPula (s : State) : Answer :=
  let (v, s1) := s.pull8
  .next (s1.setAcc .a v)

/-- PULB: pull B (R384). -/
def execPulb (s : State) : Answer :=
  let (v, s1) := s.pull8
  .next (s1.setAcc .b v)

/-- CLC: clear carry (R385). -/
def execClc (s : State) : Answer := flagsOnly maskC 0 s

/-- SEC: set carry (R386). -/
def execSec (s : State) : Answer := flagsOnly maskC maskC s

/-- CLV: clear overflow (R387). -/
def execClv (s : State) : Answer := flagsOnly maskV 0 s

/-- SEV: set overflow (R388). -/
def execSev (s : State) : Answer := flagsOnly maskV maskV s

/-- CLI: clear interrupt mask (enable IRQ) (R389). -/
def execCli (s : State) : Answer := flagsOnly maskI 0 s

/-- SEI: set interrupt mask (disable IRQ) (R390). -/
def execSei (s : State) : Answer := flagsOnly maskI maskI s

/-- NOP: no operation (R391). -/
def execNop (s : State) : Answer := .next s

/-- SWI: software interrupt (R392). -/
def execSwi (s : State) : Answer := .next (s.enterFrame swiVector)

/-- RTI: return from interrupt (R393). -/
def execRti (s : State) : Answer := .next s.returnFromInterrupt

/-- WAI: wait for interrupt; it pushes nothing (R394). -/
def execWai (s : State) : Answer := .next { s with run := .waiting }

/-- The illegal-opcode sentinel: a report of the opcode's address (PC is one past it) and its byte, and nothing else (R118). -/
def execIllegal (op : Byte) (s : State) : Answer := .next (s.report (s.pc - 1) op)

end Sys2Proof.Machine
end

