-- ==== Sys2Proof/Machine/Transfer.lean ====
section
/-!
DEFINITION. Meanings of loads, stores, transfers and clears (41_load_store_transfer.md).
-/

namespace Sys2Proof.Machine

/-- LDAA: load accumulator A (R201). -/
def execLdaa (src : Src8) (s : State) : Answer := accOperate .a maskNZV (fun _ m => move8 m) src s

/-- LDAB: load accumulator B (R202). -/
def execLdab (src : Src8) (s : State) : Answer := accOperate .b maskNZV (fun _ m => move8 m) src s

/-- STAA: store accumulator A (R203). -/
def execStaa (dst : Dst) (s : State) : Answer := storeByte (s.dstAddr dst) maskNZV (move8 s.a) s

/-- STAB: store accumulator B (R204). -/
def execStab (dst : Dst) (s : State) : Answer := storeByte (s.dstAddr dst) maskNZV (move8 s.b) s

/-- LDX: load index register; an indexed address uses the old IX (R205). -/
def execLdx (src : Src16) (s : State) : Answer :=
  let (v, s1) := s.readSrc16 src
  .next ({ s1 with ix := v }.setFlags maskNZV (move16 v).new)

/-- STX: store index register (R206). -/
def execStx (dst : Dst) (s : State) : Answer := storeWord (s.dstAddr dst) s.ix s

/-- LDS: load stack pointer (R207). -/
def execLds (src : Src16) (s : State) : Answer :=
  let (v, s1) := s.readSrc16 src
  .next ({ s1 with sp := v }.setFlags maskNZV (move16 v).new)

/-- STS: store stack pointer (R208). -/
def execSts (dst : Dst) (s : State) : Answer := storeWord (s.dstAddr dst) s.sp s

/-- TAB: transfer A to B (R209). -/
def execTab (s : State) : Answer := accWrite .b maskNZV (move8 s.a) s

/-- TBA: transfer B to A (R210). -/
def execTba (s : State) : Answer := accWrite .a maskNZV (move8 s.b) s

/-- TAP: transfer A to the condition codes; A[7:6] are discarded (R211). -/
def execTap (s : State) : Answer := .next { s with cc := ccOfByte s.a }

/-- TPA: transfer the condition codes to A (R212). -/
def execTpa (s : State) : Answer := .next { s with a := s.ccByte }

/-- `TSX_TXS_ADJUST` as a word (D13). -/
def State.tsxTxsAdjust (s : State) : Word := BitVec.ofNat 16 s.config.tsxTxsAdjust.val

/-- TSX: transfer stack pointer to index register (R213). -/
def execTsx (s : State) : Answer := .next { s with ix := s.sp + s.tsxTxsAdjust }

/-- TXS: transfer index register to stack pointer (R214). -/
def execTxs (s : State) : Answer := .next { s with sp := s.ix - s.tsxTxsAdjust }

/-- CLRA: clear accumulator A (R215). -/
def execClra (s : State) : Answer := accWrite .a maskNZVC (move8 0) s

/-- CLRB: clear accumulator B (R216). -/
def execClrb (s : State) : Answer := accWrite .b maskNZVC (move8 0) s

/-- CLR: clear a memory byte; one write and no read (R217). -/
def execClr (ref : Ref) (s : State) : Answer := storeByte (s.refAddr ref) maskNZVC (move8 0) s

end Sys2Proof.Machine
end

