-- ==== Sys2Proof/Machine/Iteration.lean ====
section
/-!
DEFINITION. One iteration of the block and one move of the machine: the fetch of an instruction, the boundary step, the Waiting and
Halted steps, and the choice of who moves (60_exceptions.md R410, R420, R425, R441).
-/

namespace Sys2Proof.Machine

/-- The operand bytes of an instruction whose opcode is fetched, one transaction each, and the instruction they give (20_memory.md R78,
30_encoding.md R108 to R114). -/
def State.fetchOperands (s : State) (op : Byte) : Instr × State :=
  match (formOf op).operandBytes with
  | 0 => ((formOf op).build 0 0, s)
  | 1 =>
    let (b1, s1) := s.fetch8
    ((formOf op).build b1 0, s1)
  | _ =>
    let (b1, s1) := s.fetch8
    let (b2, s2) := s1.fetch8
    ((formOf op).build b1 b2, s2)

/-- The fetch and decoding of the instruction at PC; PC ends past its last byte (10_state.md R34, 30_encoding.md R127). -/
def State.fetchInstr (s : State) : Instr × State :=
  let (op, s1) := s.fetch8
  s1.fetchOperands op

/-- Fetch, decode, execute (R127). -/
def State.runInstr (s : State) : Answer :=
  let (i, s1) := s.fetchInstr
  exec i s1

/-- `Step_Running`, the boundary step: RESET or HALT, then NMI, then IRQ if I is clear, else the next instruction (R410, R417). -/
def State.stepRunning (s : State) : Answer :=
  if s.resetLine || s.resetPending || s.haltLine then .next { s with run := .halted }
  else if s.nmiLatch then .next ({ s with nmiLatch := false }.enterFrame nmiVector)
  else if s.irqLine && !flagI s.cc then .next (s.enterFrame irqVector)
  else s.runInstr

/-- The wake condition of WAI (R420). -/
def State.wakes (s : State) : Bool :=
  s.nmiLatch || (s.irqLine && !flagI s.cc) || ((s.resetLine || s.resetPending) && s.config.waiWakeOnReset)

/-- `Step_Waiting`: wake and take the boundary step in the same iteration, or no change (R420). -/
def State.stepWaiting (s : State) : Answer :=
  if s.wakes then { s with run := .running }.stepRunning else .next s

/-- `Step_Halted`: when both lines are low, the reset action if one is pending, and Running; else no change (R425). -/
def State.stepHalted (s : State) : Answer :=
  if !s.resetLine && !s.haltLine then
    .next { (if s.resetPending then s.resetAction else s) with run := .running }
  else .next s

/-- One iteration of the block; in Off none is enabled and nothing changes (R431, R443; notes/assumptions/8.md). -/
def State.blockStep (s : State) : Answer :=
  match s.run with
  | .off => .next s
  | .running => s.stepRunning
  | .waiting => s.stepWaiting
  | .halted => s.stepHalted

/-- One move: the next of the list, the block's when the list is empty; the transactions of the step before are dropped (R441;
notes/assumptions/7.md, 10.md). -/
def State.nextMove (s : State) : Answer :=
  match s.moves with
  | [] => { s with bus := [] }.blockStep
  | .block :: rest => { s with bus := [], moves := rest }.blockStep
  | .host act :: rest => .next ({ s with bus := [], moves := rest }.hostAction act)

/-- The three bytes of a table word, stored from PC on as an instruction lies in memory. -/
def storeTableWord (m : Memory) (pc : Word) (nbits w : Nat) : Memory :=
  let bytes := tableBytes nbits w
  let m1 := Memory.write m pc.toNat (bytes[0]?.getD 0)
  let m2 := Memory.write m1 (pc + 1).toNat (bytes[1]?.getD 0)
  Memory.write m2 (pc + 2).toNat (bytes[2]?.getD 0)

/-- The state in which the next step fetches and runs the instruction of a table word: its bytes at PC in RAM, the block Running, no
line asserted, no latch set, no move of the host's to come (notes/assumptions/6.md). -/
def State.placeTableWord (s : State) (nbits w : Nat) : State :=
  { s with
    mem := storeTableWord s.mem s.pc nbits w
    config := { s.config with regions := [] }
    run := .running
    irqLine := false
    nmiLatch := false
    resetLine := false
    haltLine := false
    resetPending := false
    moves := [] }

end Sys2Proof.Machine
end

