-- ==== Sys2Proof/Machine/Step.lean ====
section
/-!
DEFINITION. One step of the machine, and the state in which a given instruction is the next to run. What they do is in Iteration.lean.
-/

namespace Sys2Proof.Machine

/-- One step: one host interaction or one iteration of the block (60_exceptions.md R441). -/
def step (s : State) : Host.Outcome State Fault Refusal := s.nextMove

/-- The state with a table word's instruction where the next step fetches. -/
def State.withFetchWord (s : State) (nbits w : Nat) : State := s.placeTableWord nbits w

end Sys2Proof.Machine
end

