-- ==== Sys2Proof/Machine/Descriptor.lean ====
section
/-!
DEFINITION. The Instruction Descriptor Table: what a descriptor is, the descriptor of every opcode, its packed form and the width rule
(30_encoding.md R102 to R107, R115, R117, R126). It is configuration, which no instruction reads or changes (10_state.md R48).
-/

namespace Sys2Proof.Machine

/-- Operation kinds, in the order of R106, with the illegal kind last. -/
inductive Kind where
  | nop | move8 | move16 | add | sub | com | neg | and | or | xor | rol | ror | asl | asr | lsr | daa | add16 | sub16
  | branch | bsr | jmp | jsr | rts | swi | rti | wai | modcc | illegal
  deriving DecidableEq, Repr

/-- Operand locations (R104). -/
inductive Loc where
  | accA | accB | conditionCodes | indexReg | stackReg | memory | constantZero | constantOne
  deriving DecidableEq, Repr

/-- Addressing modes (R105). -/
inductive AddrMode where
  | none | immediate | direct | indexed | extended | stackPush | stackPull
  deriving DecidableEq, Repr

/-- A descriptor (R103). `select` names the CC bits that supply a carry-in, or, for the modify-condition-codes kind, the value written to
the affected bits. A location the kind does not use is `none`. DESIGN CHOICE, safe: where the table shows a dash `select` is 0, and of a
modify-condition-codes value 1 only the affected bit is set (notes/assumptions/21.md). -/
structure Descriptor where
  kind     : Kind
  src1     : Option Loc
  src2     : Option Loc
  dst      : Option Loc
  mode     : AddrMode
  affected : Cc
  select   : Cc
  deriving DecidableEq, Repr

/-- Short names for the columns of the table. -/
def no : Option Loc := none
def accA : Option Loc := some .accA
def accB : Option Loc := some .accB
def ccReg : Option Loc := some .conditionCodes
def ixReg : Option Loc := some .indexReg
def spReg : Option Loc := some .stackReg
def memLoc : Option Loc := some .memory
def zero : Option Loc := some .constantZero
def one : Option Loc := some .constantOne
def maskHC : Cc := 0x21

/-- The row of an illegal opcode (R118); its `select`, a dash in the table, is 0 (DESIGN CHOICE, safe: notes/assumptions/21.md). -/
def illegalDescriptor : Descriptor := ⟨.illegal, no, no, no, .none, 0, 0⟩

/-- Rows 0x00 to 0x0F of the decoder table (R126): kind, src1, src2, dst, mode, affected, carry-in or value. DESIGN CHOICE, safe: a dash
of the last column is 0 here and in the rows below, and SEV, SEC and SEI set only the affected bit, where R163 speaks of an all-ones value,
which the mask makes the same (notes/assumptions/21.md). -/
def descriptorRow0 : List Descriptor :=
  [illegalDescriptor,
   ⟨.nop, no, no, no, .none, 0, 0⟩,
   illegalDescriptor,
   illegalDescriptor,
   illegalDescriptor,
   illegalDescriptor,
   ⟨.move8, accA, no, ccReg, .none, maskAll, 0⟩,
   ⟨.move8, ccReg, no, accA, .none, 0, 0⟩,
   ⟨.add16, ixReg, one, ixReg, .none, maskZ, 0⟩,
   ⟨.sub16, ixReg, one, ixReg, .none, maskZ, 0⟩,
   ⟨.modcc, no, no, no, .none, maskV, 0⟩,
   ⟨.modcc, no, no, no, .none, maskV, maskV⟩,
   ⟨.modcc, no, no, no, .none, maskC, 0⟩,
   ⟨.modcc, no, no, no, .none, maskC, maskC⟩,
   ⟨.modcc, no, no, no, .none, maskI, 0⟩,
   ⟨.modcc, no, no, no, .none, maskI, maskI⟩]

/-- Rows 0x10 to 0x1F of the decoder table (R126): kind, src1, src2, dst, mode, affected, carry-in or value. -/
def descriptorRow1 : List Descriptor :=
  [⟨.sub, accA, accB, accA, .none, maskNZVC, 0⟩,
   ⟨.sub, accA, accB, zero, .none, maskNZVC, 0⟩,
   illegalDescriptor,
   illegalDescriptor,
   illegalDescriptor,
   illegalDescriptor,
   ⟨.move8, accA, no, accB, .none, maskNZV, 0⟩,
   ⟨.move8, accB, no, accA, .none, maskNZV, 0⟩,
   illegalDescriptor,
   ⟨.daa, accA, no, accA, .none, maskNZVC, maskHC⟩,
   illegalDescriptor,
   ⟨.add, accA, accB, accA, .none, maskHNZVC, 0⟩,
   illegalDescriptor,
   illegalDescriptor,
   illegalDescriptor,
   illegalDescriptor]

/-- Rows 0x20 to 0x2F of the decoder table (R126): kind, src1, src2, dst, mode, affected, carry-in or value. -/
def descriptorRow2 : List Descriptor :=
  [⟨.branch, no, no, no, .immediate, 0, 0⟩,
   illegalDescriptor,
   ⟨.branch, no, no, no, .immediate, 0, 0⟩,
   ⟨.branch, no, no, no, .immediate, 0, 0⟩,
   ⟨.branch, no, no, no, .immediate, 0, 0⟩,
   ⟨.branch, no, no, no, .immediate, 0, 0⟩,
   ⟨.branch, no, no, no, .immediate, 0, 0⟩,
   ⟨.branch, no, no, no, .immediate, 0, 0⟩,
   ⟨.branch, no, no, no, .immediate, 0, 0⟩,
   ⟨.branch, no, no, no, .immediate, 0, 0⟩,
   ⟨.branch, no, no, no, .immediate, 0, 0⟩,
   ⟨.branch, no, no, no, .immediate, 0, 0⟩,
   ⟨.branch, no, no, no, .immediate, 0, 0⟩,
   ⟨.branch, no, no, no, .immediate, 0, 0⟩,
   ⟨.branch, no, no, no, .immediate, 0, 0⟩,
   ⟨.branch, no, no, no, .immediate, 0, 0⟩]

/-- Rows 0x30 to 0x3F of the decoder table (R126): kind, src1, src2, dst, mode, affected, carry-in or value. -/
def descriptorRow3 : List Descriptor :=
  [⟨.add16, spReg, one, ixReg, .none, 0, 0⟩,
   ⟨.add16, spReg, one, spReg, .none, 0, 0⟩,
   ⟨.move8, memLoc, no, accA, .stackPull, 0, 0⟩,
   ⟨.move8, memLoc, no, accB, .stackPull, 0, 0⟩,
   ⟨.sub16, spReg, one, spReg, .none, 0, 0⟩,
   ⟨.sub16, ixReg, one, spReg, .none, 0, 0⟩,
   ⟨.move8, accA, no, memLoc, .stackPush, 0, 0⟩,
   ⟨.move8, accB, no, memLoc, .stackPush, 0, 0⟩,
   illegalDescriptor,
   ⟨.rts, no, no, no, .none, 0, 0⟩,
   illegalDescriptor,
   ⟨.rti, no, no, no, .none, maskAll, 0⟩,
   illegalDescriptor,
   illegalDescriptor,
   ⟨.wai, no, no, no, .none, 0, 0⟩,
   ⟨.swi, no, no, no, .none, maskI, 0⟩]

/-- Rows 0x40 to 0x4F of the decoder table (R126): kind, src1, src2, dst, mode, affected, carry-in or value. -/
def descriptorRow4 : List Descriptor :=
  [⟨.neg, zero, accA, accA, .none, maskNZVC, 0⟩,
   illegalDescriptor,
   illegalDescriptor,
   ⟨.com, accA, no, accA, .none, maskNZVC, 0⟩,
   ⟨.lsr, accA, no, accA, .none, maskNZVC, 0⟩,
   illegalDescriptor,
   ⟨.ror, accA, no, accA, .none, maskNZVC, maskC⟩,
   ⟨.asr, accA, no, accA, .none, maskNZVC, 0⟩,
   ⟨.asl, accA, no, accA, .none, maskNZVC, 0⟩,
   ⟨.rol, accA, no, accA, .none, maskNZVC, maskC⟩,
   ⟨.sub, accA, one, accA, .none, maskNZV, 0⟩,
   illegalDescriptor,
   ⟨.add, accA, one, accA, .none, maskNZV, 0⟩,
   ⟨.sub, accA, zero, zero, .none, maskNZVC, 0⟩,
   illegalDescriptor,
   ⟨.move8, zero, no, accA, .none, maskNZVC, 0⟩]

/-- Rows 0x50 to 0x5F of the decoder table (R126): kind, src1, src2, dst, mode, affected, carry-in or value. -/
def descriptorRow5 : List Descriptor :=
  [⟨.neg, zero, accB, accB, .none, maskNZVC, 0⟩,
   illegalDescriptor,
   illegalDescriptor,
   ⟨.com, accB, no, accB, .none, maskNZVC, 0⟩,
   ⟨.lsr, accB, no, accB, .none, maskNZVC, 0⟩,
   illegalDescriptor,
   ⟨.ror, accB, no, accB, .none, maskNZVC, maskC⟩,
   ⟨.asr, accB, no, accB, .none, maskNZVC, 0⟩,
   ⟨.asl, accB, no, accB, .none, maskNZVC, 0⟩,
   ⟨.rol, accB, no, accB, .none, maskNZVC, maskC⟩,
   ⟨.sub, accB, one, accB, .none, maskNZV, 0⟩,
   illegalDescriptor,
   ⟨.add, accB, one, accB, .none, maskNZV, 0⟩,
   ⟨.sub, accB, zero, zero, .none, maskNZVC, 0⟩,
   illegalDescriptor,
   ⟨.move8, zero, no, accB, .none, maskNZVC, 0⟩]

/-- Rows 0x60 to 0x6F of the decoder table (R126): kind, src1, src2, dst, mode, affected, carry-in or value. -/
def descriptorRow6 : List Descriptor :=
  [⟨.neg, zero, memLoc, memLoc, .indexed, maskNZVC, 0⟩,
   illegalDescriptor,
   illegalDescriptor,
   ⟨.com, memLoc, no, memLoc, .indexed, maskNZVC, 0⟩,
   ⟨.lsr, memLoc, no, memLoc, .indexed, maskNZVC, 0⟩,
   illegalDescriptor,
   ⟨.ror, memLoc, no, memLoc, .indexed, maskNZVC, maskC⟩,
   ⟨.asr, memLoc, no, memLoc, .indexed, maskNZVC, 0⟩,
   ⟨.asl, memLoc, no, memLoc, .indexed, maskNZVC, 0⟩,
   ⟨.rol, memLoc, no, memLoc, .indexed, maskNZVC, maskC⟩,
   ⟨.sub, memLoc, one, memLoc, .indexed, maskNZV, 0⟩,
   illegalDescriptor,
   ⟨.add, memLoc, one, memLoc, .indexed, maskNZV, 0⟩,
   ⟨.sub, memLoc, zero, zero, .indexed, maskNZVC, 0⟩,
   ⟨.jmp, no, no, no, .indexed, 0, 0⟩,
   ⟨.move8, zero, no, memLoc, .indexed, maskNZVC, 0⟩]

/-- Rows 0x70 to 0x7F of the decoder table (R126): kind, src1, src2, dst, mode, affected, carry-in or value. -/
def descriptorRow7 : List Descriptor :=
  [⟨.neg, zero, memLoc, memLoc, .extended, maskNZVC, 0⟩,
   illegalDescriptor,
   illegalDescriptor,
   ⟨.com, memLoc, no, memLoc, .extended, maskNZVC, 0⟩,
   ⟨.lsr, memLoc, no, memLoc, .extended, maskNZVC, 0⟩,
   illegalDescriptor,
   ⟨.ror, memLoc, no, memLoc, .extended, maskNZVC, maskC⟩,
   ⟨.asr, memLoc, no, memLoc, .extended, maskNZVC, 0⟩,
   ⟨.asl, memLoc, no, memLoc, .extended, maskNZVC, 0⟩,
   ⟨.rol, memLoc, no, memLoc, .extended, maskNZVC, maskC⟩,
   ⟨.sub, memLoc, one, memLoc, .extended, maskNZV, 0⟩,
   illegalDescriptor,
   ⟨.add, memLoc, one, memLoc, .extended, maskNZV, 0⟩,
   ⟨.sub, memLoc, zero, zero, .extended, maskNZVC, 0⟩,
   ⟨.jmp, no, no, no, .extended, 0, 0⟩,
   ⟨.move8, zero, no, memLoc, .extended, maskNZVC, 0⟩]

/-- Rows 0x80 to 0x8F of the decoder table (R126): kind, src1, src2, dst, mode, affected, carry-in or value. -/
def descriptorRow8 : List Descriptor :=
  [⟨.sub, accA, memLoc, accA, .immediate, maskNZVC, 0⟩,
   ⟨.sub, accA, memLoc, zero, .immediate, maskNZVC, 0⟩,
   ⟨.sub, accA, memLoc, accA, .immediate, maskNZVC, maskC⟩,
   illegalDescriptor,
   ⟨.and, accA, memLoc, accA, .immediate, maskNZV, 0⟩,
   ⟨.and, accA, memLoc, zero, .immediate, maskNZV, 0⟩,
   ⟨.move8, memLoc, no, accA, .immediate, maskNZV, 0⟩,
   illegalDescriptor,
   ⟨.xor, accA, memLoc, accA, .immediate, maskNZV, 0⟩,
   ⟨.add, accA, memLoc, accA, .immediate, maskHNZVC, maskC⟩,
   ⟨.or, accA, memLoc, accA, .immediate, maskNZV, 0⟩,
   ⟨.add, accA, memLoc, accA, .immediate, maskHNZVC, 0⟩,
   ⟨.sub16, ixReg, memLoc, zero, .immediate, maskNZV, 0⟩,
   ⟨.bsr, no, no, no, .immediate, 0, 0⟩,
   ⟨.move16, memLoc, no, spReg, .immediate, maskNZV, 0⟩,
   illegalDescriptor]

/-- Rows 0x90 to 0x9F of the decoder table (R126): kind, src1, src2, dst, mode, affected, carry-in or value. -/
def descriptorRow9 : List Descriptor :=
  [⟨.sub, accA, memLoc, accA, .direct, maskNZVC, 0⟩,
   ⟨.sub, accA, memLoc, zero, .direct, maskNZVC, 0⟩,
   ⟨.sub, accA, memLoc, accA, .direct, maskNZVC, maskC⟩,
   illegalDescriptor,
   ⟨.and, accA, memLoc, accA, .direct, maskNZV, 0⟩,
   ⟨.and, accA, memLoc, zero, .direct, maskNZV, 0⟩,
   ⟨.move8, memLoc, no, accA, .direct, maskNZV, 0⟩,
   ⟨.move8, accA, no, memLoc, .direct, maskNZV, 0⟩,
   ⟨.xor, accA, memLoc, accA, .direct, maskNZV, 0⟩,
   ⟨.add, accA, memLoc, accA, .direct, maskHNZVC, maskC⟩,
   ⟨.or, accA, memLoc, accA, .direct, maskNZV, 0⟩,
   ⟨.add, accA, memLoc, accA, .direct, maskHNZVC, 0⟩,
   ⟨.sub16, ixReg, memLoc, zero, .direct, maskNZV, 0⟩,
   illegalDescriptor,
   ⟨.move16, memLoc, no, spReg, .direct, maskNZV, 0⟩,
   ⟨.move16, spReg, no, memLoc, .direct, maskNZV, 0⟩]

/-- Rows 0xA0 to 0xAF of the decoder table (R126): kind, src1, src2, dst, mode, affected, carry-in or value. -/
def descriptorRowA : List Descriptor :=
  [⟨.sub, accA, memLoc, accA, .indexed, maskNZVC, 0⟩,
   ⟨.sub, accA, memLoc, zero, .indexed, maskNZVC, 0⟩,
   ⟨.sub, accA, memLoc, accA, .indexed, maskNZVC, maskC⟩,
   illegalDescriptor,
   ⟨.and, accA, memLoc, accA, .indexed, maskNZV, 0⟩,
   ⟨.and, accA, memLoc, zero, .indexed, maskNZV, 0⟩,
   ⟨.move8, memLoc, no, accA, .indexed, maskNZV, 0⟩,
   ⟨.move8, accA, no, memLoc, .indexed, maskNZV, 0⟩,
   ⟨.xor, accA, memLoc, accA, .indexed, maskNZV, 0⟩,
   ⟨.add, accA, memLoc, accA, .indexed, maskHNZVC, maskC⟩,
   ⟨.or, accA, memLoc, accA, .indexed, maskNZV, 0⟩,
   ⟨.add, accA, memLoc, accA, .indexed, maskHNZVC, 0⟩,
   ⟨.sub16, ixReg, memLoc, zero, .indexed, maskNZV, 0⟩,
   ⟨.jsr, no, no, no, .indexed, 0, 0⟩,
   ⟨.move16, memLoc, no, spReg, .indexed, maskNZV, 0⟩,
   ⟨.move16, spReg, no, memLoc, .indexed, maskNZV, 0⟩]

/-- Rows 0xB0 to 0xBF of the decoder table (R126): kind, src1, src2, dst, mode, affected, carry-in or value. -/
def descriptorRowB : List Descriptor :=
  [⟨.sub, accA, memLoc, accA, .extended, maskNZVC, 0⟩,
   ⟨.sub, accA, memLoc, zero, .extended, maskNZVC, 0⟩,
   ⟨.sub, accA, memLoc, accA, .extended, maskNZVC, maskC⟩,
   illegalDescriptor,
   ⟨.and, accA, memLoc, accA, .extended, maskNZV, 0⟩,
   ⟨.and, accA, memLoc, zero, .extended, maskNZV, 0⟩,
   ⟨.move8, memLoc, no, accA, .extended, maskNZV, 0⟩,
   ⟨.move8, accA, no, memLoc, .extended, maskNZV, 0⟩,
   ⟨.xor, accA, memLoc, accA, .extended, maskNZV, 0⟩,
   ⟨.add, accA, memLoc, accA, .extended, maskHNZVC, maskC⟩,
   ⟨.or, accA, memLoc, accA, .extended, maskNZV, 0⟩,
   ⟨.add, accA, memLoc, accA, .extended, maskHNZVC, 0⟩,
   ⟨.sub16, ixReg, memLoc, zero, .extended, maskNZV, 0⟩,
   ⟨.jsr, no, no, no, .extended, 0, 0⟩,
   ⟨.move16, memLoc, no, spReg, .extended, maskNZV, 0⟩,
   ⟨.move16, spReg, no, memLoc, .extended, maskNZV, 0⟩]

/-- Rows 0xC0 to 0xCF of the decoder table (R126): kind, src1, src2, dst, mode, affected, carry-in or value. -/
def descriptorRowC : List Descriptor :=
  [⟨.sub, accB, memLoc, accB, .immediate, maskNZVC, 0⟩,
   ⟨.sub, accB, memLoc, zero, .immediate, maskNZVC, 0⟩,
   ⟨.sub, accB, memLoc, accB, .immediate, maskNZVC, maskC⟩,
   illegalDescriptor,
   ⟨.and, accB, memLoc, accB, .immediate, maskNZV, 0⟩,
   ⟨.and, accB, memLoc, zero, .immediate, maskNZV, 0⟩,
   ⟨.move8, memLoc, no, accB, .immediate, maskNZV, 0⟩,
   illegalDescriptor,
   ⟨.xor, accB, memLoc, accB, .immediate, maskNZV, 0⟩,
   ⟨.add, accB, memLoc, accB, .immediate, maskHNZVC, maskC⟩,
   ⟨.or, accB, memLoc, accB, .immediate, maskNZV, 0⟩,
   ⟨.add, accB, memLoc, accB, .immediate, maskHNZVC, 0⟩,
   illegalDescriptor,
   illegalDescriptor,
   ⟨.move16, memLoc, no, ixReg, .immediate, maskNZV, 0⟩,
   illegalDescriptor]

/-- Rows 0xD0 to 0xDF of the decoder table (R126): kind, src1, src2, dst, mode, affected, carry-in or value. -/
def descriptorRowD : List Descriptor :=
  [⟨.sub, accB, memLoc, accB, .direct, maskNZVC, 0⟩,
   ⟨.sub, accB, memLoc, zero, .direct, maskNZVC, 0⟩,
   ⟨.sub, accB, memLoc, accB, .direct, maskNZVC, maskC⟩,
   illegalDescriptor,
   ⟨.and, accB, memLoc, accB, .direct, maskNZV, 0⟩,
   ⟨.and, accB, memLoc, zero, .direct, maskNZV, 0⟩,
   ⟨.move8, memLoc, no, accB, .direct, maskNZV, 0⟩,
   ⟨.move8, accB, no, memLoc, .direct, maskNZV, 0⟩,
   ⟨.xor, accB, memLoc, accB, .direct, maskNZV, 0⟩,
   ⟨.add, accB, memLoc, accB, .direct, maskHNZVC, maskC⟩,
   ⟨.or, accB, memLoc, accB, .direct, maskNZV, 0⟩,
   ⟨.add, accB, memLoc, accB, .direct, maskHNZVC, 0⟩,
   illegalDescriptor,
   illegalDescriptor,
   ⟨.move16, memLoc, no, ixReg, .direct, maskNZV, 0⟩,
   ⟨.move16, ixReg, no, memLoc, .direct, maskNZV, 0⟩]

/-- Rows 0xE0 to 0xEF of the decoder table (R126): kind, src1, src2, dst, mode, affected, carry-in or value. -/
def descriptorRowE : List Descriptor :=
  [⟨.sub, accB, memLoc, accB, .indexed, maskNZVC, 0⟩,
   ⟨.sub, accB, memLoc, zero, .indexed, maskNZVC, 0⟩,
   ⟨.sub, accB, memLoc, accB, .indexed, maskNZVC, maskC⟩,
   illegalDescriptor,
   ⟨.and, accB, memLoc, accB, .indexed, maskNZV, 0⟩,
   ⟨.and, accB, memLoc, zero, .indexed, maskNZV, 0⟩,
   ⟨.move8, memLoc, no, accB, .indexed, maskNZV, 0⟩,
   ⟨.move8, accB, no, memLoc, .indexed, maskNZV, 0⟩,
   ⟨.xor, accB, memLoc, accB, .indexed, maskNZV, 0⟩,
   ⟨.add, accB, memLoc, accB, .indexed, maskHNZVC, maskC⟩,
   ⟨.or, accB, memLoc, accB, .indexed, maskNZV, 0⟩,
   ⟨.add, accB, memLoc, accB, .indexed, maskHNZVC, 0⟩,
   illegalDescriptor,
   illegalDescriptor,
   ⟨.move16, memLoc, no, ixReg, .indexed, maskNZV, 0⟩,
   ⟨.move16, ixReg, no, memLoc, .indexed, maskNZV, 0⟩]

/-- Rows 0xF0 to 0xFF of the decoder table (R126): kind, src1, src2, dst, mode, affected, carry-in or value. -/
def descriptorRowF : List Descriptor :=
  [⟨.sub, accB, memLoc, accB, .extended, maskNZVC, 0⟩,
   ⟨.sub, accB, memLoc, zero, .extended, maskNZVC, 0⟩,
   ⟨.sub, accB, memLoc, accB, .extended, maskNZVC, maskC⟩,
   illegalDescriptor,
   ⟨.and, accB, memLoc, accB, .extended, maskNZV, 0⟩,
   ⟨.and, accB, memLoc, zero, .extended, maskNZV, 0⟩,
   ⟨.move8, memLoc, no, accB, .extended, maskNZV, 0⟩,
   ⟨.move8, accB, no, memLoc, .extended, maskNZV, 0⟩,
   ⟨.xor, accB, memLoc, accB, .extended, maskNZV, 0⟩,
   ⟨.add, accB, memLoc, accB, .extended, maskHNZVC, maskC⟩,
   ⟨.or, accB, memLoc, accB, .extended, maskNZV, 0⟩,
   ⟨.add, accB, memLoc, accB, .extended, maskHNZVC, 0⟩,
   illegalDescriptor,
   illegalDescriptor,
   ⟨.move16, memLoc, no, ixReg, .extended, maskNZV, 0⟩,
   ⟨.move16, ixReg, no, memLoc, .extended, maskNZV, 0⟩]

/-- The decoder table (R126). -/
def descriptorTable : List (List Descriptor) :=
  [descriptorRow0, descriptorRow1, descriptorRow2, descriptorRow3, descriptorRow4, descriptorRow5, descriptorRow6, descriptorRow7] ++
  [descriptorRow8, descriptorRow9, descriptorRowA, descriptorRowB, descriptorRowC, descriptorRowD, descriptorRowE, descriptorRowF]

/-- `decode(opcode) -> Descriptor`: total, a lookup (R102). The table is full, so the last arms are never taken. -/
def descriptorOf (op : Byte) : Descriptor :=
  match descriptorTable[op.toNat / 16]? with
  | some row =>
    match row[op.toNat % 16]? with
    | some d => d
    | none => illegalDescriptor
  | none => illegalDescriptor

/-- The operand width of a kind in bits: the width column of R126, `none` where it shows a dash (R115, R126). -/
def Kind.width : Kind → Option Nat
  | .move8 | .add | .sub | .com | .neg | .and | .or | .xor | .rol | .ror | .asl | .asr | .lsr | .daa | .branch | .bsr => some 8
  | .move16 | .add16 | .sub16 | .rts => some 16
  | .nop | .jmp | .jsr | .swi | .rti | .wai | .modcc | .illegal => none

/-- Does the kind work on 16-bit operands? DESIGN CHOICE, safe: a kind without a width counts as 8-bit (notes/assumptions/22.md). -/
def Kind.is16 (k : Kind) : Bool := k.width == some 16

/-- May a location serve an operand of this width (R117)? -/
def Loc.fits : Loc → Bool → Bool
  | .accA, w16 => !w16
  | .accB, w16 => !w16
  | .conditionCodes, w16 => !w16
  | .indexReg, w16 => w16
  | .stackReg, w16 => w16
  | .memory, _ => true
  | .constantZero, _ => true
  | .constantOne, _ => true

/-- A descriptor is well formed: every location it names, used by its kind or not, fits its width, and it does not write ConstantOne (R104, R117,
R119; notes/assumptions/22.md). -/
def Descriptor.legal (d : Descriptor) : Bool :=
  d.src1.all (·.fits d.kind.is16) && d.src2.all (·.fits d.kind.is16) && d.dst.all (·.fits d.kind.is16) && d.dst != one

/-- Kind codes, in the order of R106 from 0 (R107). -/
def Kind.code : Kind → BitVec 5
  | .nop => 0 | .move8 => 1 | .move16 => 2 | .add => 3 | .sub => 4 | .com => 5 | .neg => 6 | .and => 7 | .or => 8 | .xor => 9
  | .rol => 10 | .ror => 11 | .asl => 12 | .asr => 13 | .lsr => 14 | .daa => 15 | .add16 => 16 | .sub16 => 17 | .branch => 18
  | .bsr => 19 | .jmp => 20 | .jsr => 21 | .rts => 22 | .swi => 23 | .rti => 24 | .wai => 25 | .modcc => 26 | .illegal => 27

/-- Location codes (R107). -/
def Loc.code : Loc → BitVec 3
  | .accA => 0 | .accB => 1 | .conditionCodes => 2 | .indexReg => 3 | .stackReg => 4 | .memory => 5 | .constantZero => 6
  | .constantOne => 7

/-- Mode codes, in the order of R105 from 0 (R107). -/
def AddrMode.code : AddrMode → BitVec 3
  | .none => 0 | .immediate => 1 | .direct => 2 | .indexed => 3 | .extended => 4 | .stackPush => 5 | .stackPull => 6

/-- The code of a location field; an unused one is packed as 0. DESIGN CHOICE, safe: R107 gives it no code and no program can see it
(notes/assumptions/13.md). -/
def locCode : Option Loc → BitVec 3
  | some l => l.code
  | none => 0

/-- The packed descriptor word: kind 4:0, src1 7:5, src2 10:8, dst 13:11, mode 16:14, affected 22:17, value-select 28:23, 31:29 zero (R107). -/
def Descriptor.pack (d : Descriptor) : BitVec 32 :=
  (0 : BitVec 3) ++ d.select ++ d.affected ++ d.mode.code ++ locCode d.dst ++ locCode d.src2 ++ locCode d.src1 ++ d.kind.code

end Sys2Proof.Machine
end

