-- ==== Sys2Proof/Machine/DescriptorExec.lean ====
section
/-!
DEFINITION. The second reading of an instruction: the operand resolver, the access routing and the operation of the descriptor's kind,
run on the descriptor table (30_encoding.md R108 to R119, R127). The step does not use it: the instruction rules govern (R127). That both
readings agree is a statement of its own.
-/

namespace Sys2Proof.Machine

/-- `resolveAddress(mode, width)`, after the opcode fetch (R108 to R114); `w` is the operand width in bytes. -/
def State.resolve (s : State) (mode : AddrMode) (w : Word) : Word × State :=
  match mode with
  | .none => (0, s)
  | .immediate => (s.pc, { s with pc := s.pc + w })
  | .direct =>
    let (b, s1) := s.fetch8
    (zext16 b, s1)
  | .indexed =>
    let (b, s1) := s.fetch8
    (s1.ix + zext16 b, s1)
  | .extended =>
    let (hi, s1) := s.fetch8
    let (lo, s2) := s1.fetch8
    (wordOf hi lo, s2)
  | .stackPush => (s.sp - w + 1, { s with sp := s.sp - w })
  | .stackPull => (s.sp + 1, { s with sp := s.sp + w })

/-- `load8(location, address)` (R116); a location that does not fit 8 bits is refused before it is read (R117). A missing location reads as
0: DESIGN CHOICE, safe, no row of R126 reads one (notes/assumptions/22.md). -/
def State.loadLoc8 (s : State) (ea : Word) : Option Loc → Byte × State
  | some .accA => (s.a, s)
  | some .accB => (s.b, s)
  | some .conditionCodes => (s.ccByte, s)
  | some .memory => s.load8 ea
  | some .constantOne => (1, s)
  | some .constantZero => (0, s)
  | some .indexReg => (0, s)
  | some .stackReg => (0, s)
  | none => (0, s)

/-- `load16(location, address)` (R116); a location that does not fit or is missing as for `loadLoc8`. -/
def State.loadLoc16 (s : State) (ea : Word) : Option Loc → Word × State
  | some .indexReg => (s.ix, s)
  | some .stackReg => (s.sp, s)
  | some .memory => s.load16 ea
  | some .constantOne => (1, s)
  | some .constantZero => (0, s)
  | some .accA => (0, s)
  | some .accB => (0, s)
  | some .conditionCodes => (0, s)
  | none => (0, s)

/-- `store8(location, address, value)` (R116); a write to ConstantZero is discarded (R104), and so is one to a
missing location: DESIGN CHOICE, safe (notes/assumptions/22.md). -/
def State.storeLoc8 (s : State) (ea : Word) (v : Byte) : Option Loc → State
  | some .accA => { s with a := v }
  | some .accB => { s with b := v }
  | some .conditionCodes => { s with cc := ccOfByte v }
  | some .memory => s.store8 ea v
  | some .constantZero => s
  | some .constantOne => s
  | some .indexReg => s
  | some .stackReg => s
  | none => s

/-- `store16(location, address, value)` (R116); ConstantZero and a missing location as for `storeLoc8`. -/
def State.storeLoc16 (s : State) (ea : Word) (v : Word) : Option Loc → State
  | some .indexReg => { s with ix := v }
  | some .stackReg => { s with sp := v }
  | some .memory => s.store16 ea v
  | some .constantZero => s
  | some .constantOne => s
  | some .accA => s
  | some .accB => s
  | some .conditionCodes => s
  | none => s

/-- Merge the flags under the affected mask, then write the destination (R127). -/
def Descriptor.finish8 (d : Descriptor) (ea : Word) (o : Alu 8) (s : State) : Answer :=
  .next ((s.setFlags d.affected o.new).storeLoc8 ea o.r d.dst)

/-- The same at 16 bits. -/
def Descriptor.finish16 (d : Descriptor) (ea : Word) (o : Alu 16) (s : State) : Answer :=
  .next ((s.setFlags d.affected o.new).storeLoc16 ea o.r d.dst)

/-- One 8-bit operand. -/
def Descriptor.unary8 (d : Descriptor) (ea : Word) (f : Byte → Alu 8) (s : State) : Answer :=
  let (x, s1) := s.loadLoc8 ea d.src1
  d.finish8 ea (f x) s1

/-- Two 8-bit operands, src1 first. -/
def Descriptor.binary8 (d : Descriptor) (ea : Word) (f : Byte → Byte → Alu 8) (s : State) : Answer :=
  let (x, s1) := s.loadLoc8 ea d.src1
  let (y, s2) := s1.loadLoc8 ea d.src2
  d.finish8 ea (f x y) s2

/-- Two 16-bit operands, src1 first. -/
def Descriptor.binary16 (d : Descriptor) (ea : Word) (f : Word → Word → Alu 16) (s : State) : Answer :=
  let (x, s1) := s.loadLoc16 ea d.src1
  let (y, s2) := s1.loadLoc16 ea d.src2
  d.finish16 ea (f x y) s2

/-- The condition of a branch opcode 0x20 to 0x2F (40_alu.md R162). A branch descriptor at an opcode that is no branch, which is off the table,
takes the condition of the low digit: DESIGN CHOICE, safe (notes/assumptions/22.md). -/
def condOf (op : Byte) : BranchCond :=
  match op.toNat % 16 with
  | 2 => .hi
  | 3 => .ls
  | 4 => .cc
  | 5 => .cs
  | 6 => .ne
  | 7 => .eq
  | 8 => .vc
  | 9 => .vs
  | 10 => .pl
  | 11 => .mi
  | 12 => .ge
  | 13 => .lt
  | 14 => .gt
  | 15 => .le
  | _ => .always

/-- The operation of a kind, at effective address `ea`, on the state after the resolver; `op` is the opcode (R106, R127, 40_alu.md). -/
def Descriptor.operate (d : Descriptor) (op : Byte) (ea : Word) (s : State) : Answer :=
  let sel := d.select &&& s.cc
  match d.kind with
  | .nop => .next s
  | .move8 => d.unary8 ea move8 s
  | .move16 =>
    let (x, s1) := s.loadLoc16 ea d.src1
    d.finish16 ea (move16 x) s1
  | .add => d.binary8 ea (fun x y => add8 x y (flagC sel)) s
  | .sub => d.binary8 ea (fun x y => sub8 x y (flagC sel)) s
  | .com => d.unary8 ea com8 s
  | .neg => d.binary8 ea (fun x y => sub8 x y false) s
  | .and => d.binary8 ea and8 s
  | .or => d.binary8 ea or8 s
  | .xor => d.binary8 ea xor8 s
  | .rol => d.unary8 ea (fun x => rol8 x (flagC sel)) s
  | .ror => d.unary8 ea (fun x => ror8 x (flagC sel)) s
  | .asl => d.unary8 ea asl8 s
  | .asr => d.unary8 ea asr8 s
  | .lsr => d.unary8 ea lsr8 s
  | .daa => d.unary8 ea (fun x => daa8 s.config.daaVNoCorr x (flagH sel) (flagC sel) (flagV s.cc)) s
  | .add16 => d.binary16 ea add16 s
  | .sub16 => d.binary16 ea (sub16 s.config.cpxVRule) s
  | .branch =>
    let (off, s1) := s.load8 ea
    .next (if taken (condOf op) s.cc then { s1 with pc := s1.relativeTarget off } else s1)
  | .bsr =>
    let (off, s1) := s.load8 ea
    .next { s1.push16 s1.pc with pc := s1.relativeTarget off }
  | .jmp => .next { s with pc := ea }
  | .jsr => .next { s.push16 s.pc with pc := ea }
  | .rts =>
    let (v, s1) := s.pull16
    .next { s1 with pc := v }
  | .swi => .next (s.enterFrame swiVector)
  | .rti => .next s.returnFromInterrupt
  | .wai => .next { s with run := .waiting }
  | .modcc => .next (s.setFlags d.affected d.select)
  | .illegal => .next (s.report (s.pc - 1) op)

/-- Execute a descriptor: refuse a malformed one (R119), else resolve its address and operate. -/
def Descriptor.execute (d : Descriptor) (op : Byte) (s : State) : Answer :=
  if d.legal then
    let (ea, s1) := s.resolve d.mode (if d.kind.is16 then 2 else 1)
    d.operate op ea s1
  else .refused (.malformedDescriptor op)

/-- Fetch an opcode and execute its descriptor (R127). -/
def State.runDescriptor (s : State) : Answer :=
  let (op, s1) := s.fetch8
  (descriptorOf op).execute op s1

end Sys2Proof.Machine
end

