-- ==== Sys2Proof/Safety.lean ====
section
/-!
DEFINITION. What claims about the block are stated in: the invariant of its states, and, for each instruction, what the spec lets it write
(registers, flags, PC, bytes of memory) and which bus transactions it makes, written from the spec and not from the meanings.
-/

namespace Sys2Proof.Machine

/-- The invariant: memory keeps its canonical form, and a block that is not Off has been powered on (70_reset_and_hazards.md R460). -/
abbrev State.Inv (s : State) : Prop := s.mem.wf = true ∧ (s.run = .off ∨ s.poweredOnce = true)

/-- The six flags of a condition-code value, H first (10_state.md R37). -/
abbrev ccIs (f : Cc) (h i n z v c : Bool) : Prop :=
  flagH f = h ∧ flagI f = i ∧ flagN f = n ∧ flagZ f = z ∧ flagV f = v ∧ flagC f = c

/-- The registers an instruction or interrupt can write, PC and CC apart (10_state.md section 1). -/
inductive Reg where
  | a
  | b
  | ix
  | sp
  deriving DecidableEq, Repr

/-- A register's value, widened to 16 bits. -/
def State.reg (s : State) : Reg → Word
  | .a => s.a.setWidth 16
  | .b => s.b.setWidth 16
  | .ix => s.ix
  | .sp => s.sp

/-- Does the spec let the instruction write A (R36)? -/
def mayWriteA : Instr → Bool
  | .ldaa _ | .pula | .tba | .tpa | .clra | .adda _ | .adca _ | .suba _ | .sbca _ | .anda _ | .oraa _ | .eora _
  | .nega | .inca | .deca | .coma | .asla | .asra | .lsra | .rola | .rora | .aba | .sba | .daa | .rti => true
  | .illegal _ | .ldab _ | .staa _ | .stab _ | .ldx _ | .stx _ | .lds _ | .sts _ | .tab | .tap | .tsx | .txs
  | .clrb | .clr _ | .addb _ | .adcb _ | .subb _ | .sbcb _ | .cmpa _ | .cmpb _ | .cba | .negb | .neg _ | .incb
  | .inc _ | .decb | .dec _ | .tsta | .tstb | .tst _ | .cpx _ | .inx | .dex | .ins | .des | .andb _ | .bita _
  | .bitb _ | .orab _ | .eorb _ | .comb | .com _ | .aslb | .asl _ | .asrb | .asr _ | .lsrb | .lsr _ | .rolb
  | .rol _ | .rorb | .ror _ | .bra _ | .bhi _ | .bls _ | .bcc _ | .bcs _ | .bne _ | .beq _ | .bvc _ | .bvs _
  | .bpl _ | .bmi _ | .bge _ | .blt _ | .bgt _ | .ble _ | .bsr _ | .jmp _ | .jsr _ | .rts | .psha | .pshb
  | .pulb | .clc | .sec | .clv | .sev | .cli | .sei | .nop | .swi | .wai => false

/-- Does the spec let the instruction write B (R36)? -/
def mayWriteB : Instr → Bool
  | .ldab _ | .tab | .pulb | .clrb | .addb _ | .adcb _ | .subb _ | .sbcb _ | .andb _ | .orab _ | .eorb _ | .negb
  | .incb | .decb | .comb | .aslb | .asrb | .lsrb | .rolb | .rorb | .rti => true
  | .illegal _ | .ldaa _ | .staa _ | .stab _ | .ldx _ | .stx _ | .lds _ | .sts _ | .tba | .tap | .tpa | .tsx
  | .txs | .clra | .clr _ | .adda _ | .adca _ | .aba | .suba _ | .sbca _ | .sba | .cmpa _ | .cmpb _ | .cba
  | .nega | .neg _ | .inca | .inc _ | .deca | .dec _ | .tsta | .tstb | .tst _ | .daa | .cpx _ | .inx | .dex
  | .ins | .des | .anda _ | .bita _ | .bitb _ | .oraa _ | .eora _ | .coma | .com _ | .asla | .asl _ | .asra
  | .asr _ | .lsra | .lsr _ | .rola | .rol _ | .rora | .ror _ | .bra _ | .bhi _ | .bls _ | .bcc _ | .bcs _
  | .bne _ | .beq _ | .bvc _ | .bvs _ | .bpl _ | .bmi _ | .bge _ | .blt _ | .bgt _ | .ble _ | .bsr _ | .jmp _
  | .jsr _ | .rts | .psha | .pshb | .pula | .clc | .sec | .clv | .sev | .cli | .sei | .nop | .swi | .wai => false

/-- Does the spec let the instruction write IX (R36)? -/
def mayWriteIx : Instr → Bool
  | .ldx _ | .inx | .dex | .tsx | .rti => true
  | .illegal _ | .ldaa _ | .ldab _ | .staa _ | .stab _ | .stx _ | .lds _ | .sts _ | .tab | .tba | .tap | .tpa
  | .txs | .clra | .clrb | .clr _ | .adda _ | .addb _ | .adca _ | .adcb _ | .aba | .suba _ | .subb _ | .sbca _
  | .sbcb _ | .sba | .cmpa _ | .cmpb _ | .cba | .nega | .negb | .neg _ | .inca | .incb | .inc _ | .deca | .decb
  | .dec _ | .tsta | .tstb | .tst _ | .daa | .cpx _ | .ins | .des | .anda _ | .andb _ | .bita _ | .bitb _
  | .oraa _ | .orab _ | .eora _ | .eorb _ | .coma | .comb | .com _ | .asla | .aslb | .asl _ | .asra | .asrb
  | .asr _ | .lsra | .lsrb | .lsr _ | .rola | .rolb | .rol _ | .rora | .rorb | .ror _ | .bra _ | .bhi _ | .bls _
  | .bcc _ | .bcs _ | .bne _ | .beq _ | .bvc _ | .bvs _ | .bpl _ | .bmi _ | .bge _ | .blt _ | .bgt _ | .ble _
  | .bsr _ | .jmp _ | .jsr _ | .rts | .psha | .pshb | .pula | .pulb | .clc | .sec | .clv | .sev | .cli | .sei
  | .nop | .swi | .wai => false

/-- Does the spec let the instruction write SP (R36)? -/
def mayWriteSp : Instr → Bool
  | .lds _ | .ins | .des | .txs | .psha | .pshb | .pula | .pulb | .jsr _ | .bsr _ | .rts | .rti | .swi => true
  | .illegal _ | .ldaa _ | .ldab _ | .staa _ | .stab _ | .ldx _ | .stx _ | .sts _ | .tab | .tba | .tap | .tpa
  | .tsx | .clra | .clrb | .clr _ | .adda _ | .addb _ | .adca _ | .adcb _ | .aba | .suba _ | .subb _ | .sbca _
  | .sbcb _ | .sba | .cmpa _ | .cmpb _ | .cba | .nega | .negb | .neg _ | .inca | .incb | .inc _ | .deca | .decb
  | .dec _ | .tsta | .tstb | .tst _ | .daa | .cpx _ | .inx | .dex | .anda _ | .andb _ | .bita _ | .bitb _
  | .oraa _ | .orab _ | .eora _ | .eorb _ | .coma | .comb | .com _ | .asla | .aslb | .asl _ | .asra | .asrb
  | .asr _ | .lsra | .lsrb | .lsr _ | .rola | .rolb | .rol _ | .rora | .rorb | .ror _ | .bra _ | .bhi _ | .bls _
  | .bcc _ | .bcs _ | .bne _ | .beq _ | .bvc _ | .bvs _ | .bpl _ | .bmi _ | .bge _ | .blt _ | .bgt _ | .ble _
  | .jmp _ | .clc | .sec | .clv | .sev | .cli | .sei | .nop | .wai => false

/-- Does the spec let the instruction write the register (R36)? -/
def mayWrite (i : Instr) : Reg → Bool
  | .a => mayWriteA i
  | .b => mayWriteB i
  | .ix => mayWriteIx i
  | .sp => mayWriteSp i

/-- Is the instruction a transfer of control, which may write PC beyond the fetch (44_control.md, 45_stack_cc_system.md)? -/
def transfersControl : Instr → Bool
  | .bra _ | .bhi _ | .bls _ | .bcc _ | .bcs _ | .bne _ | .beq _ | .bvc _ | .bvs _ | .bpl _ | .bmi _ | .bge _
  | .blt _ | .bgt _ | .ble _ | .bsr _ | .jmp _ | .jsr _ | .rts | .swi | .rti => true
  | .illegal _ | .ldaa _ | .ldab _ | .staa _ | .stab _ | .ldx _ | .stx _ | .lds _ | .sts _ | .tab | .tba | .tap
  | .tpa | .tsx | .txs | .clra | .clrb | .clr _ | .adda _ | .addb _ | .adca _ | .adcb _ | .aba | .suba _
  | .subb _ | .sbca _ | .sbcb _ | .sba | .cmpa _ | .cmpb _ | .cba | .nega | .negb | .neg _ | .inca | .incb
  | .inc _ | .deca | .decb | .dec _ | .tsta | .tstb | .tst _ | .daa | .cpx _ | .inx | .dex | .ins | .des
  | .anda _ | .andb _ | .bita _ | .bitb _ | .oraa _ | .orab _ | .eora _ | .eorb _ | .coma | .comb | .com _
  | .asla | .aslb | .asl _ | .asra | .asrb | .asr _ | .lsra | .lsrb | .lsr _ | .rola | .rolb | .rol _ | .rora
  | .rorb | .ror _ | .psha | .pshb | .pula | .pulb | .clc | .sec | .clv | .sev | .cli | .sei | .nop | .wai => false

/-- The flags the spec lets the instruction write: the Flags line of its rule, and the affected column of 30_encoding.md R126. -/
def flagMask : Instr → Cc
  | .adda _ | .addb _ | .adca _ | .adcb _ | .aba => maskHNZVC
  | .suba _ | .subb _ | .sbca _ | .sbcb _ | .cmpa _ | .cmpb _ | .nega | .negb | .tsta | .tstb | .clra | .clrb | .coma
  | .comb | .asla | .aslb | .asra | .asrb | .lsra | .lsrb | .rola | .rolb | .rora | .rorb | .sba | .cba | .neg _
  | .tst _ | .clr _ | .com _ | .asl _ | .asr _ | .lsr _ | .rol _ | .ror _ | .daa => maskNZVC
  | .ldaa _ | .ldab _ | .staa _ | .stab _ | .anda _ | .andb _ | .bita _ | .bitb _ | .oraa _ | .orab _ | .eora _
  | .eorb _ | .inca | .incb | .deca | .decb | .ldx _ | .stx _ | .lds _ | .sts _ | .tab | .tba | .inc _ | .dec _
  | .cpx _ => maskNZV
  | .inx | .dex => maskZ
  | .clc | .sec => maskC
  | .clv | .sev => maskV
  | .cli | .sei | .swi => maskI
  | .tap | .rti => maskAll
  | .illegal _ | .tpa | .tsx | .txs | .ins | .des | .bra _ | .bhi _ | .bls _ | .bcc _ | .bcs _ | .bne _ | .beq _
  | .bvc _ | .bvs _ | .bpl _ | .bmi _ | .bge _ | .blt _ | .bgt _ | .ble _ | .bsr _ | .jmp _ | .jsr _ | .rts
  | .psha | .pshb | .pula | .pulb | .nop | .wai => 0

/-- The addresses the instruction stores to, in the order of its stores (20_memory.md R86), in the state exec is given. -/
def storedAddrs (i : Instr) (s : State) : List Word :=
  match i with
  | .staa dst => [s.dstAddr dst]
  | .stab dst => [s.dstAddr dst]
  | .stx dst => [s.dstAddr dst, s.dstAddr dst + 1]
  | .sts dst => [s.dstAddr dst, s.dstAddr dst + 1]
  | .neg ref => [s.refAddr ref]
  | .com ref => [s.refAddr ref]
  | .lsr ref => [s.refAddr ref]
  | .ror ref => [s.refAddr ref]
  | .asr ref => [s.refAddr ref]
  | .asl ref => [s.refAddr ref]
  | .rol ref => [s.refAddr ref]
  | .dec ref => [s.refAddr ref]
  | .inc ref => [s.refAddr ref]
  | .clr ref => [s.refAddr ref]
  | .bsr _ => [s.sp - 1, s.sp]
  | .jsr _ => [s.sp - 1, s.sp]
  | .psha => [s.sp]
  | .pshb => [s.sp]
  | .swi => [s.sp - 1, s.sp, s.sp - 3, s.sp - 2, s.sp - 4, s.sp - 5, s.sp - 6]
  | .illegal _ | .ldaa _ | .ldab _ | .ldx _ | .lds _ | .tab | .tba | .tap | .tpa | .tsx | .txs | .clra | .clrb
  | .adda _ | .addb _ | .adca _ | .adcb _ | .aba | .suba _ | .subb _ | .sbca _ | .sbcb _ | .sba | .cmpa _
  | .cmpb _ | .cba | .nega | .negb | .inca | .incb | .deca | .decb | .tsta | .tstb | .tst _ | .daa | .cpx _
  | .inx | .dex | .ins | .des | .anda _ | .andb _ | .bita _ | .bitb _ | .oraa _ | .orab _ | .eora _ | .eorb _
  | .coma | .comb | .asla | .aslb | .asra | .asrb | .lsra | .lsrb | .rola | .rolb | .rora | .rorb | .bra _
  | .bhi _ | .bls _ | .bcc _ | .bcs _ | .bne _ | .beq _ | .bvc _ | .bvs _ | .bpl _ | .bmi _ | .bge _ | .blt _
  | .bgt _ | .ble _ | .jmp _ | .rts | .pula | .pulb | .clc | .sec | .clv | .sev | .cli | .sei | .nop | .rti
  | .wai => []

/-- A bus transaction without its value. -/
inductive Touch where
  | rd (addr : Word)
  | wr (addr : Word)
  deriving DecidableEq, Repr

/-- Forget the value of a transaction. -/
def touchOf : BusAccess → Touch
  | .read addr _ => .rd addr
  | .write addr _ => .wr addr

/-- The reads of a byte operand (R86): none for an immediate, which was read with the instruction. -/
def State.srcTouches8 (s : State) : Src8 → List Touch
  | .imm _ => []
  | .dir addr => [.rd (directAddr addr)]
  | .idx off => [.rd (s.indexedAddr off)]
  | .ext addr => [.rd addr]

/-- The reads of a word operand (R86): high byte, then low byte. -/
def State.srcTouches16 (s : State) : Src16 → List Touch
  | .imm _ => []
  | .dir addr => [.rd (directAddr addr), .rd (directAddr addr + 1)]
  | .idx off => [.rd (s.indexedAddr off), .rd (s.indexedAddr off + 1)]
  | .ext addr => [.rd addr, .rd (addr + 1)]

/-- The writes and reads of an entry into an interrupt or SWI (60_exceptions.md R415). -/
def State.entryTouches (s : State) (vector : Word) : List Touch :=
  [.wr (s.sp - 1), .wr s.sp, .wr (s.sp - 3), .wr (s.sp - 2), .wr (s.sp - 4), .wr (s.sp - 5), .wr (s.sp - 6)] ++
    [.rd vector, .rd (vector + 1)]

/-- The transactions an instruction makes after the fetch of its bytes, in order (20_memory.md R86). -/
def touches (i : Instr) (s : State) : List Touch :=
  match i with
  | .ldaa src => s.srcTouches8 src
  | .ldab src => s.srcTouches8 src
  | .adda src => s.srcTouches8 src
  | .addb src => s.srcTouches8 src
  | .adca src => s.srcTouches8 src
  | .adcb src => s.srcTouches8 src
  | .suba src => s.srcTouches8 src
  | .subb src => s.srcTouches8 src
  | .sbca src => s.srcTouches8 src
  | .sbcb src => s.srcTouches8 src
  | .cmpa src => s.srcTouches8 src
  | .cmpb src => s.srcTouches8 src
  | .anda src => s.srcTouches8 src
  | .andb src => s.srcTouches8 src
  | .bita src => s.srcTouches8 src
  | .bitb src => s.srcTouches8 src
  | .oraa src => s.srcTouches8 src
  | .orab src => s.srcTouches8 src
  | .eora src => s.srcTouches8 src
  | .eorb src => s.srcTouches8 src
  | .ldx src => s.srcTouches16 src
  | .lds src => s.srcTouches16 src
  | .cpx src => s.srcTouches16 src
  | .tst ref => [.rd (s.refAddr ref)]
  | .staa dst => [.wr (s.dstAddr dst)]
  | .stab dst => [.wr (s.dstAddr dst)]
  | .stx dst => [.wr (s.dstAddr dst), .wr (s.dstAddr dst + 1)]
  | .sts dst => [.wr (s.dstAddr dst), .wr (s.dstAddr dst + 1)]
  | .neg ref => [.rd (s.refAddr ref), .wr (s.refAddr ref)]
  | .com ref => [.rd (s.refAddr ref), .wr (s.refAddr ref)]
  | .lsr ref => [.rd (s.refAddr ref), .wr (s.refAddr ref)]
  | .ror ref => [.rd (s.refAddr ref), .wr (s.refAddr ref)]
  | .asr ref => [.rd (s.refAddr ref), .wr (s.refAddr ref)]
  | .asl ref => [.rd (s.refAddr ref), .wr (s.refAddr ref)]
  | .rol ref => [.rd (s.refAddr ref), .wr (s.refAddr ref)]
  | .dec ref => [.rd (s.refAddr ref), .wr (s.refAddr ref)]
  | .inc ref => [.rd (s.refAddr ref), .wr (s.refAddr ref)]
  | .clr ref => [.wr (s.refAddr ref)]
  | .bsr _ => [.wr (s.sp - 1), .wr s.sp]
  | .jsr _ => [.wr (s.sp - 1), .wr s.sp]
  | .rts => [.rd (s.sp + 1), .rd (s.sp + 2)]
  | .psha => [.wr s.sp]
  | .pshb => [.wr s.sp]
  | .pula => [.rd (s.sp + 1)]
  | .pulb => [.rd (s.sp + 1)]
  | .swi => s.entryTouches swiVector
  | .rti => [.rd (s.sp + 1), .rd (s.sp + 2), .rd (s.sp + 3), .rd (s.sp + 4), .rd (s.sp + 5), .rd (s.sp + 6), .rd (s.sp + 7)]
  | .illegal _ | .tab | .tba | .tap | .tpa | .tsx | .txs | .clra | .clrb | .aba | .sba | .cba | .nega | .negb
  | .inca | .incb | .deca | .decb | .tsta | .tstb | .daa | .inx | .dex | .ins | .des | .coma | .comb | .asla
  | .aslb | .asra | .asrb | .lsra | .lsrb | .rola | .rolb | .rora | .rorb | .bra _ | .bhi _ | .bls _ | .bcc _
  | .bcs _ | .bne _ | .beq _ | .bvc _ | .bvs _ | .bpl _ | .bmi _ | .bge _ | .blt _ | .bgt _ | .ble _ | .jmp _
  | .clc | .sec | .clv | .sev | .cli | .sei | .nop | .wai => []

/-- Nothing asks for the boundary: RESET, HALT, NMI and an unmasked IRQ are all absent (60_exceptions.md R410). -/
abbrev State.quiet (s : State) : Prop :=
  s.resetLine = false ∧ s.resetPending = false ∧ s.haltLine = false ∧ s.nmiLatch = false ∧
    (s.irqLine = false ∨ flagI s.cc = true)

/-- It is the block's turn (60_exceptions.md R441). -/
abbrev State.blockMoves (s : State) : Prop := s.moves.head? = none ∨ s.moves.head? = some .block

/-- Every address of a list is RAM. -/
abbrev State.allRam (s : State) (l : List Word) : Prop := ∀ a ∈ l, s.kindAt a = .ram

/-! What a statement about an instruction's result is written in. -/

/-- The byte an operand gives: the immediate, or the byte at the effective address (30_encoding.md R109 to R112). -/
def State.srcByte (s : State) : Src8 → Byte
  | .imm data => data
  | .dir addr => s.byteAt (directAddr addr)
  | .idx off => s.byteAt (s.indexedAddr off)
  | .ext addr => s.byteAt addr

/-- The word at an address: two loads, high byte first, the second after the first has happened (20_memory.md R74). -/
def State.wordAt (s : State) (a : Word) : Word :=
  wordOf (s.byteAt a) ((s.logAccess a (.read a (s.byteAt a))).byteAt (a + 1))

/-- The word an operand gives. -/
def State.srcWord (s : State) : Src16 → Word
  | .imm data => data
  | .dir addr => s.wordAt (directAddr addr)
  | .idx off => s.wordAt (s.indexedAddr off)
  | .ext addr => s.wordAt addr

/-- The byte memory holds at `b` after stores of the listed bytes in order; a store outside RAM leaves memory alone (20_memory.md R72). -/
def State.afterStores (s : State) (l : List (Word × Byte)) (b : Nat) : Byte :=
  l.foldl (fun old p => if b = p.1.toNat ∧ s.kindAt p.1 = .ram then p.2 else old) (Memory.read s.mem b)

/-- All of memory in `t` is that of `s` after the listed stores. -/
abbrev State.stored (s t : State) (l : List (Word × Byte)) : Prop :=
  ∀ b : Nat, Memory.read t.mem b = s.afterStores l b

/-- `t` is `s` with accumulator `x`, condition codes and bus traffic new. -/
abbrev State.newAcc (s t : State) (x : Acc) : Prop :=
  t = { s.setAcc x (t.acc x) with cc := t.cc, bus := t.bus, deviceLog := t.deviceLog }

/-- `t` is `s` with condition codes and bus traffic new. -/
abbrev State.newFlags (s t : State) : Prop := t = { s with cc := t.cc, bus := t.bus, deviceLog := t.deviceLog }

/-- `t` is `s` after a read of the byte at `ea`, a write of `r` to it, and new condition codes (20_memory.md R86, R87). -/
abbrev State.modified (s t : State) (ea : Word) (r : Byte) : Prop :=
  t = { s with
        cc := t.cc
        mem := t.mem
        bus := s.bus ++ [.read ea (s.byteAt ea), .write ea r]
        deviceLog := t.deviceLog } ∧
    s.stored t [(ea, r)]

/-- `r` and the flags of `new` are those of `a + m + cin` (40_alu.md R141), I as in `old`. -/
abbrev addsTo (a m : Byte) (cin : Bool) (old new : Cc) (r : Byte) : Prop :=
  r.toNat = (a.toNat + m.toNat + cin.toNat) % 256 ∧
    ccIs new (decide (a.toNat % 16 + m.toNat % 16 + cin.toNat > 15)) (flagI old) (r.getLsbD 7) (decide (r = 0))
      (decide (a.toInt + m.toInt + cin.toNat < -128 ∨ a.toInt + m.toInt + cin.toNat > 127))
      (decide (a.toNat + m.toNat + cin.toNat > 255))

/-- `r` and the flags of `new` are those of `a - m - cin` (R143), H and I as in `old`. -/
abbrev subtractsTo (a m : Byte) (cin : Bool) (old new : Cc) (r : Byte) : Prop :=
  (r.toNat : Int) = ((a.toNat : Int) - m.toNat - cin.toNat) % 256 ∧
    ccIs new (flagH old) (flagI old) (r.getLsbD 7) (decide (r = 0))
      (decide (a.toInt - m.toInt - cin.toNat < -128 ∨ a.toInt - m.toInt - cin.toNat > 127))
      (decide (a.toNat < m.toNat + cin.toNat))

/-- The flags of `new` are those of a logical result or a move `r`: V clear; H, I and C as in `old` (R146, R147). -/
abbrev logicFlags (r : Byte) (old new : Cc) : Prop :=
  ccIs new (flagH old) (flagI old) (r.getLsbD 7) (decide (r = 0)) false (flagC old)

/-- The flags of `new` are those of a shift to `r` with `out` shifted out: C = out, V = N xor C (R150). -/
abbrev shiftFlags (r : Byte) (out : Bool) (old new : Cc) : Prop :=
  ccIs new (flagH old) (flagI old) (r.getLsbD 7) (decide (r = 0)) (r.getLsbD 7 ^^ out) out

/-- The flags of `new` are those of a word moved, `v` (R161). -/
abbrev wordFlags (v : Word) (old new : Cc) : Prop :=
  ccIs new (flagH old) (flagI old) (v.getLsbD 15) (decide (v = 0)) false (flagC old)

/-- A read of the vector at `v` stands last on the bus of `t`, after `earlier`, and gave its PC; outside device windows the two bytes are
memory's (20_memory.md R74, R82). -/
abbrev State.vectored (s t : State) (earlier : List BusAccess) (v : Word) : Prop :=
  ∃ hi lo : Byte,
    t.bus = s.bus ++ earlier ++ [.read v hi, .read (v + 1) lo] ∧ t.pc = wordOf hi lo ∧
      (s.kindAt v ≠ .device → hi = Memory.read t.mem v.toNat) ∧
      (s.kindAt (v + 1) ≠ .device → lo = Memory.read t.mem (v + 1).toNat)

/-- The bytes an entry stores, in order (60_exceptions.md R415): PC, IX, A, B and the byte image of CC. -/
def State.frame (s : State) : List (Word × Byte) :=
  [(s.sp - 1, hiByte s.pc), (s.sp, loByte s.pc), (s.sp - 3, hiByte s.ix), (s.sp - 2, loByte s.ix)] ++
    [(s.sp - 4, s.a), (s.sp - 5, s.b), (s.sp - 6, s.config.ccHighBits ++ s.cc)]

/-- `t` is `s` after an entry through the vector at `v`: the frame stored, SP seven lower, I set and no other flag changed, PC from the
vector, and no other effect (R415, R416). -/
abbrev State.entered (s t : State) (v : Word) : Prop :=
  t = { s with sp := s.sp - 7, pc := t.pc, cc := t.cc, mem := t.mem, bus := t.bus, deviceLog := t.deviceLog } ∧
    ccIs t.cc (flagH s.cc) true (flagN s.cc) (flagZ s.cc) (flagV s.cc) (flagC s.cc) ∧
    s.stored t s.frame ∧ s.vectored t (s.frame.map fun p => .write p.1 p.2) v

/-- The state in which a move is made: the transactions of the step before dropped, the move taken off the list (notes/assumptions/7.md,
10.md). -/
def State.atMove (s : State) : State := { s with bus := [], moves := s.moves.tail }

end Sys2Proof.Machine
end

