-- ==== Sys2Proof/Certificates/Slice0/Obligations.lean ====
section
/-!
DEFINITION. The statements about the block, one definition each, listed in OBLIGATIONS.json. The spec's numbered rules they come from are in
each docstring; what the spec marks as its own choice or as general knowledge is said there too.
-/

section

open Sys2Proof Sys2Proof.Machine

/-- Decoding the encoding of a well-formed instruction gives it back, whatever bytes follow (30_encoding.md R101, 30_encoding.md
R102, 30_encoding.md section 5 (opcode map)). The opcode values are the M6800 map, which the spec marks as general knowledge
(30_encoding.md R120, R126). -/
def Obligations.EncodeThenDecode : Prop :=
  ∀ (i : Instr) (rest : List Byte), i.wellFormed = true → decode (encode i ++ rest) = .ok i rest

/-- What the decoder reads is well formed and is exactly the bytes its encoding writes (30_encoding.md R101, 30_encoding.md
R102, 30_encoding.md section 5 (opcode map)). The other direction of the round trip. -/
def Obligations.DecodeThenEncode : Prop :=
  ∀ (bytes : List Byte) (i : Instr) (rest : List Byte),
    decode bytes = .ok i rest → i.wellFormed = true ∧ encode i ++ rest = bytes

/-- Every opcode decodes, its length is 1, 2 or 3 bytes, and only missing operand bytes are refused (30_encoding.md R100,
30_encoding.md R102, 30_encoding.md R122). "decoding is total: every opcode maps to exactly one descriptor (illegal or valid)"
(R102). -/
def Obligations.EveryOpcodeDecodes : Prop :=
  ∀ (op : Byte) (rest : List Byte),
    (opcodeLength op = 1 ∨ opcodeLength op = 2 ∨ opcodeLength op = 3) ∧
      (opcodeLength op ≤ rest.length + 1 →
        ∃ i, decode (op :: rest) = .ok i (rest.drop (opcodeLength op - 1))) ∧
      (rest.length + 1 < opcodeLength op → decode (op :: rest) = .rejected (.missingOperand op))

/-- Exactly the 59 listed opcodes decode to the illegal sentinel, which carries its own opcode (30_encoding.md section 5
(illegal opcode list)). The list is that of 30_encoding.md R121, which the spec marks as general knowledge and its decision D1.
-/
def Obligations.IllegalOpcodesAreTheListed : Prop :=
  illegalOpcodes.length = 59 ∧ illegalOpcodes.Nodup ∧
    ∀ op b1 b2 : Byte,
      (op ∈ illegalOpcodes → decode [op, b1, b2] = .ok (.illegal op) [b1, b2]) ∧
        (op ∉ illegalOpcodes → ∀ (x : Byte) (rest : List Byte), decode [op, b1, b2] ≠ .ok (.illegal x) rest)

/-- Words written out from the spec's Encoding and Example lines decode to the instructions they stand for
(41_load_store_transfer.md (Encoding and Example lines), 42_arithmetic.md (Encoding and Example lines), 43_logic_shift.md
(Encoding and Example lines), 44_control.md (Encoding and Example lines), 45_stack_cc_system.md (Encoding and Example lines)).
The words are those of the Encoding lines of 41_load_store_transfer.md to 45_stack_cc_system.md. -/
def Obligations.SampleWordsDecode : Prop :=
  decode [0x86, 0x80] = .ok (.ldaa (.imm 0x80)) [] ∧ decode [0xA6, 0xFF] = .ok (.ldaa (.idx 0xFF)) [] ∧
    decode [0xFE, 0xFF, 0xFF] = .ok (.ldx (.ext 0xFFFF)) [] ∧ decode [0xDF, 0xFF] = .ok (.stx (.dir 0xFF)) [] ∧
    decode [0x8B, 0x7F] = .ok (.adda (.imm 0x7F)) [] ∧ decode [0x9C, 0x40] = .ok (.cpx (.dir 0x40)) [] ∧
    decode [0x6D, 0x05] = .ok (.tst (.idx 0x05)) [] ∧ decode [0x63, 0x00] = .ok (.com (.idx 0x00)) [] ∧
    decode [0x24, 0xFC] = .ok (.bcc 0xFC) [] ∧ decode [0x8D, 0x03] = .ok (.bsr 0x03) [] ∧
    decode [0xBD, 0xE1, 0x23] = .ok (.jsr (.ext 0xE123)) [] ∧ decode [0x3F] = .ok .swi [] ∧
    decode [0x21] = .ok (.illegal 0x21) []

/-- Running the descriptor of an opcode does exactly what the instruction rule says (30_encoding.md R127, 30_encoding.md R104,
30_encoding.md R108, 30_encoding.md R109, 30_encoding.md R112, 30_encoding.md R116, 30_encoding.md section 7 (decoder table)).
The table is the spec's reconstruction (R126); its TSX and TXS rows hold for the adjustment 1 only (notes/assumptions/14.md). -/
def Obligations.DescriptorMatchesInstruction : Prop :=
  ∀ s : State,
    (∃ t, s.runDescriptor = .next t) ∧
      (s.config.tsxTxsAdjust = 1 ∨ (s.byteAt s.pc ≠ 0x30 ∧ s.byteAt s.pc ≠ 0x35) →
        s.runDescriptor = s.runInstr)

/-- A step of a running block with nothing pending is exec of the instruction its bytes decode to (30_encoding.md R127,
60_exceptions.md R410, 20_memory.md R78). The bytes may come from RAM, ROM or a device: each is what its fetch returns. That all
bytes are fetched first and exec begins with PC past them is the model's reading (notes/assumptions/9.md); that the step takes
the move off the list and drops the old transactions is the model's choice (notes/assumptions/7.md, 10.md). -/
def Obligations.StepRunsDecodedInstruction : Prop :=
  ∀ (s : State) (i : Instr), s.blockMoves → s.run = .running → s.quiet →
    (decode [s.atMove.fetch8.1] = .ok i [] → step s = exec i s.atMove.fetch8.2) ∧
      (decode [s.atMove.fetch8.1, s.atMove.fetch8.2.fetch8.1] = .ok i [] →
        step s = exec i s.atMove.fetch8.2.fetch8.2) ∧
      (decode [s.atMove.fetch8.1, s.atMove.fetch8.2.fetch8.1, s.atMove.fetch8.2.fetch8.2.fetch8.1] = .ok i [] →
        step s = exec i s.atMove.fetch8.2.fetch8.2.fetch8.2)

/-- With the instruction's bytes in memory at PC, the step is exec with PC past them and their reads on the bus (10_state.md
R33, 20_memory.md R78, 30_encoding.md R127, 60_exceptions.md R410). The same as StepRunsDecodedInstruction, in terms of memory
and of the encoder. That all bytes are fetched first and exec begins with PC past them is the model's reading
(notes/assumptions/9.md); that the step takes the move off the list and drops the old transactions is the model's choice
(notes/assumptions/7.md, 10.md). -/
def Obligations.StepPastInstructionBytes : Prop :=
  ∀ (s : State) (i : Instr), s.blockMoves → s.run = .running → s.quiet → i.wellFormed = true →
    (∀ k (h : k < (encode i).length),
      s.kindAt (s.pc + BitVec.ofNat 16 k) ≠ .device ∧ s.byteAt (s.pc + BitVec.ofNat 16 k) = (encode i)[k]) →
    step s = exec i
      { s.atMove with
        pc := s.pc + BitVec.ofNat 16 (encode i).length
        bus := (encode i).mapIdx fun k v => .read (s.pc + BitVec.ofNat 16 k) v }

/-- At a boundary RESET and HALT come first, then NMI, then IRQ if I is clear, then the next instruction (60_exceptions.md R410,
60_exceptions.md R415, 60_exceptions.md section 3 (priority)). That a pending RESET is part of the first test is the spec's
decision D17, the order within one boundary its D44. That the step takes the move off the list and drops the old transactions is
the model's choice (notes/assumptions/7.md, 10.md). What a store to ROM or to a device window leaves in memory is the model's
choice (notes/assumptions/4.md). -/
def Obligations.BoundaryPriority : Prop :=
  ∀ s : State, s.blockMoves → s.run = .running →
    (s.resetLine = true ∨ s.resetPending = true ∨ s.haltLine = true →
      step s = .next { s.atMove with run := .halted }) ∧
    (s.resetLine = false → s.resetPending = false → s.haltLine = false →
      (s.nmiLatch = true →
        ∃ t, step s = .next t ∧ State.entered { s.atMove with nmiLatch := false } t 0xFFFC) ∧
      (s.nmiLatch = false → s.irqLine = true → flagI s.cc = false →
        ∃ t, step s = .next t ∧ s.atMove.entered t 0xFFF8) ∧
      (s.nmiLatch = false → (s.irqLine = false ∨ flagI s.cc = true) → step s = s.atMove.runInstr))

/-- A waiting block wakes on NMI, on an unmasked IRQ or by parameter on RESET, with the boundary step at once (60_exceptions.md
R420). That RESET wakes by default is the spec's decision D15; the statement holds for both values of the parameter. That the
step takes the move off the list and drops the old transactions is the model's choice (notes/assumptions/7.md, 10.md). -/
def Obligations.WaitingStep : Prop :=
  ∀ s : State, s.blockMoves → s.run = .waiting →
    (s.nmiLatch = true ∨ (s.irqLine = true ∧ flagI s.cc = false) ∨
        ((s.resetLine = true ∨ s.resetPending = true) ∧ s.config.waiWakeOnReset = true) →
      step s = step { s with run := .running }) ∧
    (s.nmiLatch = false → (s.irqLine = false ∨ flagI s.cc = true) →
        ((s.resetLine = false ∧ s.resetPending = false) ∨ s.config.waiWakeOnReset = false) →
      step s = .next s.atMove)

/-- A halted block resumes when both lines are low, with the reset action if one is pending; Off does nothing (60_exceptions.md
R425, 70_reset_and_hazards.md R463, 60_exceptions.md R431). That the reset action sets I is the spec's decision D17. R431 says
only that no iteration is enabled in Off: that the step then answers the same state is the model's choice
(notes/assumptions/8.md). That the step takes the move off the list and drops the old transactions is the model's choice
(notes/assumptions/7.md, 10.md). -/
def Obligations.HaltedAndOffSteps : Prop :=
  ∀ s : State, s.blockMoves →
    (s.run = .halted → (s.resetLine = true ∨ s.haltLine = true) → step s = .next s.atMove) ∧
    (s.run = .halted → s.resetLine = false → s.haltLine = false → s.resetPending = false →
      step s = .next { s.atMove with run := .running }) ∧
    (s.run = .halted → s.resetLine = false → s.haltLine = false → s.resetPending = true →
      ∃ t, step s = .next t ∧
        t = { s.atMove with
              run := .running
              pc := t.pc
              cc := t.cc
              nmiLatch := s.nmiLatch && !s.config.nmiClearedByReset
              resetPending := false
              bus := t.bus
              deviceLog := t.deviceLog } ∧
        ccIs t.cc (flagH s.cc) true (flagN s.cc) (flagZ s.cc) (flagV s.cc) (flagC s.cc) ∧
        s.atMove.vectored t [] 0xFFFE) ∧
    (s.run = .off → step s = .next s.atMove)

/-- Each host interaction but powerOn of an Off block changes exactly the state the table names (60_exceptions.md R440,
60_exceptions.md R441, 60_exceptions.md R430, 60_exceptions.md R431). The effect of a cancellation elsewhere is the model's
reading (notes/assumptions/12.md) and is not stated. That the step takes the move off the list and drops the old transactions is
the model's choice (notes/assumptions/7.md, 10.md). -/
def Obligations.HostInteractions : Prop :=
  ∀ s : State,
    (s.moves.head? = some (.host .raiseIRQ) → step s = .next { s.atMove with irqLine := true }) ∧
    (s.moves.head? = some (.host .lowerIRQ) → step s = .next { s.atMove with irqLine := false }) ∧
    (s.moves.head? = some (.host .tripNMI) → step s = .next { s.atMove with nmiLatch := true }) ∧
    (s.moves.head? = some (.host .raiseRESET) →
      step s = .next { s.atMove with resetLine := true, resetPending := true }) ∧
    (s.moves.head? = some (.host .lowerRESET) → step s = .next { s.atMove with resetLine := false }) ∧
    (s.moves.head? = some (.host .raiseHALT) → step s = .next { s.atMove with haltLine := true }) ∧
    (s.moves.head? = some (.host .lowerHALT) → step s = .next { s.atMove with haltLine := false }) ∧
    (s.moves.head? = some (.host .powerOff) → step s = .next { s.atMove with run := .off }) ∧
    (s.moves.head? = some (.host .powerOn) → s.run ≠ .off → step s = .next s.atMove) ∧
    (s.moves.head? = some (.host .cancelWait) → (s.run = .waiting ∨ s.run = .halted) →
      step s = .next { s.atMove with run := .off })

/-- powerOn of an Off block reads the reset vector, sets I and runs; only the first one takes INIT_STATE
(70_reset_and_hazards.md R460, 60_exceptions.md R430, 10_state.md R51). INIT_STATE is a parameter (R461): the statement holds
for every value of it. That a later powerOn keeps the registers is the spec's decision D19. That the step takes the move off the
list and drops the old transactions is the model's choice (notes/assumptions/7.md, 10.md). -/
def Obligations.PowerOnSequence : Prop :=
  ∀ s : State, s.moves.head? = some (.host .powerOn) → s.run = .off →
    ∃ t, step s = .next t ∧
      t = { s.atMove with
            a := if s.poweredOnce then s.a else s.config.init.a
            b := if s.poweredOnce then s.b else s.config.init.b
            ix := if s.poweredOnce then s.ix else s.config.init.ix
            sp := if s.poweredOnce then s.sp else s.config.init.sp
            pc := t.pc
            cc := t.cc
            run := .running
            resetPending := false
            poweredOnce := true
            bus := t.bus
            deviceLog := t.deviceLog } ∧
      (let f := if s.poweredOnce then s.cc else s.config.init.cc
       ccIs t.cc (flagH f) true (flagN f) (flagZ f) (flagV f) (flagC f)) ∧
      s.atMove.vectored t [] 0xFFFE

/-- The run state changes only along the transitions of the table, each by its cause (60_exceptions.md section 6 (run-state
transitions), 10_state.md R43). The table of 60_exceptions.md R432, which the spec derives from R410, R420, R425, R430, R431 and
R394. Whose move it is stands in the list of moves, which is the model's choice (notes/assumptions/7.md); that a cancellation
acts in Waiting and Halted only is its reading (notes/assumptions/12.md). -/
def Obligations.RunStateTransitions : Prop :=
  ∀ s t : State, step s = .next t → t.run ≠ s.run →
    (s.run = .off ∧ t.run = .running ∧ s.moves.head? = some (.host .powerOn)) ∨
    (s.run ≠ .off ∧ t.run = .off ∧
      (s.moves.head? = some (.host .powerOff) ∨ s.moves.head? = some (.host .cancelWait))) ∨
    (s.blockMoves ∧
      ((s.run = .running ∧ t.run = .waiting ∧ s.quiet ∧ s.atMove.fetchInstr.1 = .wai) ∨
       (s.run = .running ∧ t.run = .halted ∧
          (s.resetLine = true ∨ s.resetPending = true ∨ s.haltLine = true)) ∨
       (s.run = .waiting ∧ t.run = .running ∧
          (s.nmiLatch = true ∨ (s.irqLine = true ∧ flagI s.cc = false))) ∨
       (s.run = .waiting ∧ t.run = .halted ∧ s.wakes = true ∧
          (s.resetLine = true ∨ s.resetPending = true ∨ s.haltLine = true)) ∨
       (s.run = .halted ∧ t.run = .running ∧ s.resetLine = false ∧ s.haltLine = false)))

/-- The reset state is what the first powerOn of an Off block with blank memory leaves (70_reset_and_hazards.md R460,
10_state.md R51). Blank memory, RAM everywhere, INIT_STATE zeros and low lines are the model's choices (notes/assumptions/3.md,
4.md, 5.md, 6.md). That the step takes the move off the list and drops the old transactions is the model's choice
(notes/assumptions/7.md, 10.md). -/
def Obligations.FirstPowerOnGivesReset : Prop :=
  (∀ s : State, s.run = .off → s.poweredOnce = false → s.mem = [] → s.config = defaultConfig →
      s.irqLine = false → s.nmiLatch = false → s.resetLine = false → s.haltLine = false →
      s.reports = [] → s.deviceLog = [] → s.moves = [.host .powerOn] → step s = .next State.reset) ∧
    flagI State.reset.cc = true ∧ State.reset.run = .running ∧ State.reset.resetPending = false ∧
    State.reset.pc = State.reset.wordAt 0xFFFE

/-- The reset state has the invariant (70_reset_and_hazards.md R460, 20_memory.md R70). The canonical form is the model's own
(notes/assumptions/3.md). -/
def Obligations.ResetStateHasInvariant : Prop :=
  State.reset.Inv

/-- Every step keeps memory canonical and a block that is not Off powered on (20_memory.md R70, 70_reset_and_hazards.md R460,
60_exceptions.md R441). From every state that has the invariant, not only those a run reaches. The canonical form of memory is
the model's own choice (notes/assumptions/3.md) and no rule's; that the move is any entry of a list is its choice too
(notes/assumptions/7.md). -/
def Obligations.StepKeepsInvariant : Prop :=
  ∀ s t : State, s.Inv → step s = .next t → t.Inv

/-- Every step answers a next state: nothing faults, nothing is refused, no parameter changes (60_exceptions.md R401,
20_memory.md R92, 30_encoding.md R102, 30_encoding.md R118). "the block raises no trap or fault of any kind from an instruction"
(R401). That no step changes a parameter and that one move is taken off the list are the model's choices
(notes/assumptions/2.md, 7.md), and so is what exec does with a sentinel that carries a defined opcode
(notes/assumptions/15.md). -/
def Obligations.StepAlwaysAnswers : Prop :=
  (∀ s : State, ∃ t, step s = .next t ∧ t.config = s.config ∧ t.moves = s.moves.tail) ∧
    ∀ (i : Instr) (s : State), ∃ t, exec i s = .next t

/-- SWI pushes PC, IX, A, B and CC, sets I and loads PC from 0xFFFA (60_exceptions.md R415, 20_memory.md R79,
45_stack_cc_system.md section 5 (SWI)). That SWI uses the entry sequence and sets I is the spec's decision D34. What a store to
ROM or to a device window leaves in memory is the model's choice (notes/assumptions/4.md). -/
def Obligations.SwiEntersFrame : Prop :=
  ∀ s : State, ∃ t, exec .swi s = .next t ∧ s.entered t 0xFFFA

/-- An interrupt entry followed by RTI restores PC, IX, A, B, CC and SP (60_exceptions.md R415, 60_exceptions.md R419,
60_exceptions.md section 2 (stack frame)). "restores all five values bit-for-bit and leaves SP unchanged from its pre-interrupt
value" (R416). -/
def Obligations.EntryThenRtiRestores : Prop :=
  ∀ (s u : State) (v pc' : Word), s.allRam (s.frame.map Prod.fst) → s.entered u v →
    ∃ t, exec .rti { u with pc := pc' } = .next t ∧
      t.a = s.a ∧ t.b = s.b ∧ t.ix = s.ix ∧ t.pc = s.pc ∧ t.cc = s.cc ∧ t.sp = s.sp

/-- ADD8 is exact addition reduced mod 256 with the stated C, V, H, N and Z, which are the truth table's (40_alu.md R141,
40_alu.md R142). R141 whole, with the formulas of the truth table it refers to (R142, which the spec derives from it). -/
def Obligations.AddEightIsExact : Prop :=
  ∀ (a b : Byte) (cin : Bool),
    (add8 a b cin).r.toNat = (a.toNat + b.toNat + cin.toNat) % 256 ∧
    (let new := (add8 a b cin).new
     let r := (add8 a b cin).r
     ccIs new (decide (a.toNat % 16 + b.toNat % 16 + cin.toNat > 15)) false (r.getLsbD 7) (decide (r = 0))
       (decide (a.toInt + b.toInt + cin.toNat < -128 ∨ a.toInt + b.toInt + cin.toNat > 127))
       (decide (a.toNat + b.toNat + cin.toNat > 255)) ∧
     flagC new = ((a.getLsbD 7 && b.getLsbD 7) || (a.getLsbD 7 && !r.getLsbD 7) || (b.getLsbD 7 && !r.getLsbD 7)) ∧
     flagV new = ((a.getLsbD 7 && b.getLsbD 7 && !r.getLsbD 7) || (!a.getLsbD 7 && !b.getLsbD 7 && r.getLsbD 7)) ∧
     flagH new = ((a.getLsbD 3 && b.getLsbD 3) || (a.getLsbD 3 && !r.getLsbD 3) || (b.getLsbD 3 && !r.getLsbD 3)))

/-- SUB8 is exact subtraction reduced mod 256 with a borrow C, the stated V, N, Z and no H, as the truth table says (40_alu.md
R143, 40_alu.md section 2 (subtract truth table)). R143, with the formulas of R144, which the spec derives from it. -/
def Obligations.SubEightIsExact : Prop :=
  ∀ (a b : Byte) (cin : Bool),
    ((sub8 a b cin).r.toNat : Int) = ((a.toNat : Int) - b.toNat - cin.toNat) % 256 ∧
    (let new := (sub8 a b cin).new
     let r := (sub8 a b cin).r
     ccIs new false false (r.getLsbD 7) (decide (r = 0))
       (decide (a.toInt - b.toInt - cin.toNat < -128 ∨ a.toInt - b.toInt - cin.toNat > 127))
       (decide (a.toNat < b.toNat + cin.toNat)) ∧
     flagC new = ((!a.getLsbD 7 && b.getLsbD 7) || (b.getLsbD 7 && r.getLsbD 7) || (r.getLsbD 7 && !a.getLsbD 7)) ∧
     flagV new = ((a.getLsbD 7 && !b.getLsbD 7 && !r.getLsbD 7) || (!a.getLsbD 7 && b.getLsbD 7 && r.getLsbD 7)))

/-- Shifts and rotates move one bit; C is the bit shifted out, V is N xor C (R150, R151, R153, R154, R155). ASR's result (R152)
is marked as general knowledge by the spec and stated in RightShifts; here only its flags, which R150 gives. -/
def Obligations.ShiftsMoveOneBit : Prop :=
  ∀ (a : Byte) (cin : Bool),
    ((asl8 a).r.toNat = a.toNat * 2 % 256 ∧
      ccIs (asl8 a).new false false ((asl8 a).r.getLsbD 7) (decide ((asl8 a).r = 0))
        ((asl8 a).r.getLsbD 7 ^^ a.getLsbD 7) (a.getLsbD 7)) ∧
    ((lsr8 a).r.toNat = a.toNat / 2 ∧
      ccIs (lsr8 a).new false false false (decide ((lsr8 a).r = 0)) (a.getLsbD 0) (a.getLsbD 0)) ∧
    ((rol8 a cin).r = a.extractLsb' 0 7 ++ BitVec.ofBool cin ∧
      ccIs (rol8 a cin).new false false ((rol8 a cin).r.getLsbD 7) (decide ((rol8 a cin).r = 0))
        ((rol8 a cin).r.getLsbD 7 ^^ a.getLsbD 7) (a.getLsbD 7)) ∧
    ((ror8 a cin).r = BitVec.ofBool cin ++ a.extractLsb' 1 7 ∧
      ccIs (ror8 a cin).new false false ((ror8 a cin).r.getLsbD 7) (decide ((ror8 a cin).r = 0))
        ((ror8 a cin).r.getLsbD 7 ^^ a.getLsbD 0) (a.getLsbD 0)) ∧
    ccIs (asr8 a).new false false ((asr8 a).r.getLsbD 7) (decide ((asr8 a).r = 0))
      ((asr8 a).r.getLsbD 7 ^^ a.getLsbD 0) (a.getLsbD 0) ∧
    ((ror8 0x01 true).r = 0x80 ∧ flagC (ror8 0x01 true).new = true ∧ flagV (ror8 0x01 true).new = false)

/-- Adding two BCD bytes and adjusting gives the BCD of the decimal sum, with C from 100 on (40_alu.md section 5 (DAA
property)). The property of 40_alu.md R157, which the spec derives from R141 and R156. -/
def Obligations.DaaGivesDecimalSum : Prop :=
  ∀ (rule : DaaVRule) (v : Bool) (a b : Nat), a < 100 → b < 100 →
    (let bcd (n : Nat) : Byte := BitVec.ofNat 8 (n / 10 * 16 + n % 10)
     let sum := add8 (bcd a) (bcd b) false
     let adj := daa8 rule sum.r (flagH sum.new) (flagC sum.new) v
     adj.r = bcd ((a + b) % 100) ∧ flagC adj.new = decide (100 ≤ a + b))

/-- SetCC writes the flags of the mask and keeps the others (R17). R17 whole. -/
def Obligations.FlagMergeKeepsOtherFlags : Prop :=
  ∀ (s : State) (mask new : Cc),
    s.setFlags mask new = { s with cc := (s.cc &&& ~~~mask) ||| (new &&& mask) } ∧
    ccIs (s.setFlags mask new).cc (if flagH mask then flagH new else flagH s.cc)
      (if flagI mask then flagI new else flagI s.cc) (if flagN mask then flagN new else flagN s.cc)
      (if flagZ mask then flagZ new else flagZ s.cc) (if flagV mask then flagV new else flagV s.cc)
      (if flagC mask then flagC new else flagC s.cc) ∧
    ccIs maskNZVC false false true true true true

/-- Fetch, push and pull move PC and SP as stated, one transaction a byte, big-endian (20_memory.md R78, 20_memory.md R79,
20_memory.md R80). R78, R79 and R80 whole. What a store to ROM or to a device window leaves in memory is the model's choice
(notes/assumptions/4.md). -/
def Obligations.FetchPushPull : Prop :=
  ∀ (s : State) (v : Byte) (w : Word),
    (s.fetch8.1 = s.byteAt s.pc ∧
      s.fetch8.2 = { s with pc := s.pc + 1, bus := s.bus ++ [.read s.pc (s.byteAt s.pc)], deviceLog := s.fetch8.2.deviceLog }) ∧
    (s.push8 v = { s with sp := s.sp - 1, mem := (s.push8 v).mem, bus := s.bus ++ [.write (s.sp - 1 + 1) v],
                          deviceLog := (s.push8 v).deviceLog } ∧
      s.stored (s.push8 v) [(s.sp - 1 + 1, v)]) ∧
    (s.push16 w = { s with sp := s.sp - 2, mem := (s.push16 w).mem,
                           bus := s.bus ++ [.write (s.sp - 2 + 1) (hiByte w), .write (s.sp - 2 + 2) (loByte w)],
                           deviceLog := (s.push16 w).deviceLog } ∧
      s.stored (s.push16 w) [(s.sp - 2 + 1, hiByte w), (s.sp - 2 + 2, loByte w)]) ∧
    (s.pull8.1 = s.byteAt (s.sp + 1) ∧
      s.pull8.2 = { s with sp := s.sp + 1, bus := s.bus ++ [.read (s.sp + 1) (s.byteAt (s.sp + 1))],
                           deviceLog := s.pull8.2.deviceLog }) ∧
    (s.pull16.1 = s.wordAt (s.sp + 1) ∧
      s.pull16.2 = { s with sp := s.sp + 2, bus := s.pull16.2.bus, deviceLog := s.pull16.2.deviceLog } ∧
      s.pull16.2.bus = s.bus ++ [.read (s.sp + 1) (hiByte s.pull16.1), .read (s.sp + 2) (loByte s.pull16.1)])

/-- A word access is two byte accesses, high byte first at the address, low byte at the next, wrapping at 0xFFFF (20_memory.md
R76, 20_memory.md R73, 20_memory.md section 1 (MemRead and MemWrite of two bytes)). The wrap of the second address (R74, R75) is
the spec's decision D6. -/
def Obligations.WordAccessIsBigEndian : Prop :=
  ∀ (s : State) (a w : Word), s.kindAt a = .ram → s.kindAt (a + 1) = .ram →
    (s.store16 a w).wordAt a = w ∧ (s.store16 a w).byteAt a = hiByte w ∧ (s.store16 a w).byteAt (a + 1) = loByte w ∧
    (s.store16 a w).bus = s.bus ++ [.write a (hiByte w), .write (a + 1) (loByte w)] ∧
    (s.load16 a).1 = s.wordAt a ∧
    (s.load16 a).2 = { s with bus := s.bus ++ [.read a (s.byteAt a), .read (a + 1) (s.byteAt (a + 1))] }

/-- A load of RAM gives the last byte stored there; other addresses, ROM and devices keep memory as it was (20_memory.md R72,
20_memory.md R73, 20_memory.md R88). ROM and device windows are the model's reading of the parameter Bus
(notes/assumptions/4.md). -/
def Obligations.RamKeepsLastStore : Prop :=
  ∀ (s : State) (a : Word) (v : Byte),
    (s.kindAt a = .ram → (s.store8 a v).byteAt a = v) ∧
    (∀ b : Word, b ≠ a → s.kindAt b ≠ .device → (s.store8 a v).byteAt b = s.byteAt b) ∧
    (s.kindAt a ≠ .ram → (s.store8 a v).mem = s.mem) ∧
    (s.store8 a v).bus = s.bus ++ [.write a v] ∧
    (s.load8 a).1 = s.byteAt a ∧ (s.load8 a).2.bus = s.bus ++ [.read a (s.byteAt a)] ∧ (s.load8 a).2.mem = s.mem

/-- Two canonical memories with the same byte at every address are the same data (20_memory.md R70). The canonical form is the
model's own (notes/assumptions/3.md); this says it is canonical. -/
def Obligations.EqualMemoriesAreEqualData : Prop :=
  ∀ m n : Memory, m.wf = true → n.wf = true → (∀ a : Nat, Memory.read m a = Memory.read n a) → m = n

/-- LDAA and LDAB load the operand byte and set N and Z from it and V clear (41_load_store_transfer.md R201,
41_load_store_transfer.md R202, 40_alu.md R147). The flag lines are marked general knowledge by the spec (decision D41). -/
def Obligations.AccumulatorLoads : Prop :=
  ∀ (src : Src8) (s : State), ∀ p ∈ [(Instr.ldaa src, Acc.a), (Instr.ldab src, Acc.b)],
    ∃ t, exec p.1 s = .next t ∧ s.newAcc t p.2 ∧ t.acc p.2 = s.srcByte src ∧ logicFlags (s.srcByte src) s.cc t.cc

/-- STAA and STAB store the accumulator at the effective address and set N and Z from it and V clear (41_load_store_transfer.md
R203, 41_load_store_transfer.md R204, 40_alu.md R147). The flag lines are marked general knowledge by the spec (decision D41).
What a store to ROM or to a device window leaves in memory is the model's choice (notes/assumptions/4.md). -/
def Obligations.AccumulatorStores : Prop :=
  ∀ (dst : Dst) (s : State), ∀ p ∈ [(Instr.staa dst, s.a), (Instr.stab dst, s.b)],
    ∃ t, exec p.1 s = .next t ∧
      t = { s with cc := t.cc, mem := t.mem, bus := s.bus ++ [.write (s.dstAddr dst) p.2], deviceLog := t.deviceLog } ∧
      s.stored t [(s.dstAddr dst, p.2)] ∧ logicFlags p.2 s.cc t.cc

/-- LDX and LDS load the operand word and set N and Z from it and V clear (41_load_store_transfer.md R205,
41_load_store_transfer.md R207). The flag lines are marked general knowledge by the spec (decision D41). -/
def Obligations.WordRegisterLoads : Prop :=
  ∀ (src : Src16) (s : State),
    (∃ t, exec (.ldx src) s = .next t ∧
      t = { s with ix := s.srcWord src, cc := t.cc, bus := t.bus, deviceLog := t.deviceLog } ∧
      wordFlags (s.srcWord src) s.cc t.cc) ∧
    (∃ t, exec (.lds src) s = .next t ∧
      t = { s with sp := s.srcWord src, cc := t.cc, bus := t.bus, deviceLog := t.deviceLog } ∧
      wordFlags (s.srcWord src) s.cc t.cc)

/-- STX and STS store the register high byte first and set N and Z from it and V clear (41_load_store_transfer.md R206,
41_load_store_transfer.md R208). The flag lines are marked general knowledge by the spec (decision D41). What a store to ROM or
to a device window leaves in memory is the model's choice (notes/assumptions/4.md). -/
def Obligations.WordRegisterStores : Prop :=
  ∀ (dst : Dst) (s : State), ∀ p ∈ [(Instr.stx dst, s.ix), (Instr.sts dst, s.sp)],
    ∃ t, exec p.1 s = .next t ∧
      t = { s with
            cc := t.cc
            mem := t.mem
            bus := s.bus ++ [.write (s.dstAddr dst) (hiByte p.2), .write (s.dstAddr dst + 1) (loByte p.2)]
            deviceLog := t.deviceLog } ∧
      s.stored t [(s.dstAddr dst, hiByte p.2), (s.dstAddr dst + 1, loByte p.2)] ∧ wordFlags p.2 s.cc t.cc

/-- TAB, TBA, TAP, TPA, TSX and TXS move registers, with the flags of each (41_load_store_transfer.md R209,
41_load_store_transfer.md R210, 41_load_store_transfer.md R211, 41_load_store_transfer.md R212, 41_load_store_transfer.md R213,
41_load_store_transfer.md R214). CC_HIGH_BITS (D3) and TSX_TXS_ADJUST (D13) are parameters, TAP's discarded bits decision D40:
the statement holds for every value of the parameters. -/
def Obligations.RegisterTransfers : Prop :=
  ∀ s : State,
    (∃ t, exec .tab s = .next t ∧ t = { s with b := s.a, cc := t.cc } ∧ logicFlags s.a s.cc t.cc) ∧
    (∃ t, exec .tba s = .next t ∧ t = { s with a := s.b, cc := t.cc } ∧ logicFlags s.b s.cc t.cc) ∧
    (∃ t, exec .tap s = .next t ∧ t = { s with cc := t.cc } ∧
      ccIs t.cc (s.a.getLsbD 5) (s.a.getLsbD 4) (s.a.getLsbD 3) (s.a.getLsbD 2) (s.a.getLsbD 1) (s.a.getLsbD 0)) ∧
    exec .tpa s = .next { s with a := s.config.ccHighBits ++ s.cc } ∧
    exec .tsx s = .next { s with ix := s.sp + BitVec.ofNat 16 s.config.tsxTxsAdjust.val } ∧
    exec .txs s = .next { s with sp := s.ix - BitVec.ofNat 16 s.config.tsxTxsAdjust.val }

/-- CLRA, CLRB and CLR write zero with Z set and N, V, C clear; CLR reads nothing (41_load_store_transfer.md R215,
41_load_store_transfer.md R216, 41_load_store_transfer.md R217). The flag lines are marked general knowledge by the spec; that
CLR makes no read is its decision D22. What a store to ROM or to a device window leaves in memory is the model's choice
(notes/assumptions/4.md). -/
def Obligations.Clears : Prop :=
  ∀ (ref : Ref) (s : State),
    (∃ t, exec .clra s = .next t ∧ t = { s with a := 0, cc := t.cc } ∧
      ccIs t.cc (flagH s.cc) (flagI s.cc) false true false false) ∧
    (∃ t, exec .clrb s = .next t ∧ t = { s with b := 0, cc := t.cc } ∧
      ccIs t.cc (flagH s.cc) (flagI s.cc) false true false false) ∧
    (∃ t, exec (.clr ref) s = .next t ∧
      t = { s with cc := t.cc, mem := t.mem, bus := s.bus ++ [.write (s.refAddr ref) 0], deviceLog := t.deviceLog } ∧
      s.stored t [(s.refAddr ref, 0)] ∧ ccIs t.cc (flagH s.cc) (flagI s.cc) false true false false)

/-- ADDA, ADDB, ADCA, ADCB and ABA add exactly mod 256 with H, N, Z, V, C; only ADC uses the carry (42_arithmetic.md R241,
42_arithmetic.md R242, 42_arithmetic.md R243, 42_arithmetic.md R244, 42_arithmetic.md R245, 40_alu.md R141, 40_alu.md R145). The
opcodes and flag masks are marked general knowledge by the spec (D4). -/
def Obligations.Additions : Prop :=
  ∀ (src : Src8) (s : State),
    (∀ p ∈ [(Instr.adda src, Acc.a, false), (Instr.addb src, Acc.b, false), (Instr.adca src, Acc.a, flagC s.cc),
          (Instr.adcb src, Acc.b, flagC s.cc)],
      ∃ t, exec p.1 s = .next t ∧ s.newAcc t p.2.1 ∧
        addsTo (s.acc p.2.1) (s.srcByte src) p.2.2 s.cc t.cc (t.acc p.2.1)) ∧
    (∃ t, exec .aba s = .next t ∧ t = { s with a := t.a, cc := t.cc } ∧ addsTo s.a s.b false s.cc t.cc t.a)

/-- SUBA, SUBB, SBCA, SBCB and SBA subtract exactly mod 256 with N, Z, V and a borrow C; H is kept (42_arithmetic.md R246,
42_arithmetic.md R247, 42_arithmetic.md R248, 42_arithmetic.md R249, 42_arithmetic.md R250, 40_alu.md R143, 40_alu.md R145). The
opcodes and flag masks are marked general knowledge by the spec (D4). -/
def Obligations.Subtractions : Prop :=
  ∀ (src : Src8) (s : State),
    (∀ p ∈ [(Instr.suba src, Acc.a, false), (Instr.subb src, Acc.b, false), (Instr.sbca src, Acc.a, flagC s.cc),
          (Instr.sbcb src, Acc.b, flagC s.cc)],
      ∃ t, exec p.1 s = .next t ∧ s.newAcc t p.2.1 ∧
        subtractsTo (s.acc p.2.1) (s.srcByte src) p.2.2 s.cc t.cc (t.acc p.2.1)) ∧
    (∃ t, exec .sba s = .next t ∧ t = { s with a := t.a, cc := t.cc } ∧ subtractsTo s.a s.b false s.cc t.cc t.a)

/-- CMPA, CMPB, CBA, TSTA, TSTB and TST set the flags of a subtraction and write no register and no memory (42_arithmetic.md
R251, 42_arithmetic.md R252, 42_arithmetic.md R253, 42_arithmetic.md R263, 42_arithmetic.md R264, 42_arithmetic.md R265). The
opcodes and flag masks are marked general knowledge by the spec (D4). -/
def Obligations.ComparesAndTests : Prop :=
  ∀ (src : Src8) (ref : Ref) (s : State),
    (∀ p ∈ [(Instr.cmpa src, s.a), (Instr.cmpb src, s.b)],
      ∃ t, exec p.1 s = .next t ∧ s.newFlags t ∧ ∃ r, subtractsTo p.2 (s.srcByte src) false s.cc t.cc r) ∧
    (∃ t, exec .cba s = .next t ∧ t = { s with cc := t.cc } ∧ ∃ r, subtractsTo s.a s.b false s.cc t.cc r) ∧
    (∀ p ∈ [(Instr.tsta, s.a), (Instr.tstb, s.b)],
      ∃ t, exec p.1 s = .next t ∧ t = { s with cc := t.cc } ∧
        ccIs t.cc (flagH s.cc) (flagI s.cc) (p.2.getLsbD 7) (decide (p.2 = 0)) false false) ∧
    (let m := s.byteAt (s.refAddr ref)
     ∃ t, exec (.tst ref) s = .next t ∧ s.newFlags t ∧
      ccIs t.cc (flagH s.cc) (flagI s.cc) (m.getLsbD 7) (decide (m = 0)) false false)

/-- NEG subtracts from zero, INC adds one and DEC subtracts one; INC and DEC keep C (42_arithmetic.md R254, 42_arithmetic.md
R255, 42_arithmetic.md R256, 42_arithmetic.md R257, 42_arithmetic.md R258, 42_arithmetic.md R259, 42_arithmetic.md R260,
42_arithmetic.md R261, 42_arithmetic.md R262). The flag masks are marked general knowledge by the spec (D4). What a store to ROM
or to a device window leaves in memory is the model's choice (notes/assumptions/4.md). -/
def Obligations.NegateIncrementDecrement : Prop :=
  ∀ (ref : Ref) (s : State),
    (∀ p ∈ [(Instr.nega, Acc.a), (Instr.negb, Acc.b)],
      ∃ t, exec p.1 s = .next t ∧ t = { s.setAcc p.2 (t.acc p.2) with cc := t.cc } ∧
        subtractsTo 0 (s.acc p.2) false s.cc t.cc (t.acc p.2)) ∧
    (∀ p ∈ [(Instr.inca, Acc.a), (Instr.incb, Acc.b)],
      ∃ t, exec p.1 s = .next t ∧ t = { s.setAcc p.2 (s.acc p.2 + 1) with cc := t.cc } ∧
        ccIs t.cc (flagH s.cc) (flagI s.cc) ((s.acc p.2 + 1).getLsbD 7) (decide (s.acc p.2 + 1 = 0))
          (decide (s.acc p.2 = 0x7F)) (flagC s.cc)) ∧
    (∀ p ∈ [(Instr.deca, Acc.a), (Instr.decb, Acc.b)],
      ∃ t, exec p.1 s = .next t ∧ t = { s.setAcc p.2 (s.acc p.2 - 1) with cc := t.cc } ∧
        ccIs t.cc (flagH s.cc) (flagI s.cc) ((s.acc p.2 - 1).getLsbD 7) (decide (s.acc p.2 - 1 = 0))
          (decide (s.acc p.2 = 0x80)) (flagC s.cc)) ∧
    (let ea := s.refAddr ref
     let m := s.byteAt ea
     (∃ t r, exec (.neg ref) s = .next t ∧ s.modified t ea r ∧ subtractsTo 0 m false s.cc t.cc r) ∧
     (∃ t, exec (.inc ref) s = .next t ∧ s.modified t ea (m + 1) ∧
        ccIs t.cc (flagH s.cc) (flagI s.cc) ((m + 1).getLsbD 7) (decide (m + 1 = 0)) (decide (m = 0x7F)) (flagC s.cc)) ∧
     (∃ t, exec (.dec ref) s = .next t ∧ s.modified t ea (m - 1) ∧
        ccIs t.cc (flagH s.cc) (flagI s.cc) ((m - 1).getLsbD 7) (decide (m - 1 = 0)) (decide (m = 0x80)) (flagC s.cc)))

/-- DAA adds 0x06 and 0x60 to A as its low nibble, H, value and C ask (42_arithmetic.md R266, 40_alu.md section 5 (DAA8)). V
without an upper correction is the parameter of the spec's decision D9: both values are stated. -/
def Obligations.DecimalAdjust : Prop :=
  ∀ s : State,
    (let lo := if s.a.toNat % 16 > 9 ∨ flagH s.cc = true then s.a.toNat + 0x06 else s.a.toNat
     let corr := decide (lo > 0x9F ∨ flagC s.cc = true)
     let r : Byte := BitVec.ofNat 8 (if corr then lo + 0x60 else lo)
     ∃ t, exec .daa s = .next t ∧ t = { s with a := r, cc := t.cc } ∧
       ccIs t.cc (flagH s.cc) (flagI s.cc) (r.getLsbD 7) (decide (r = 0))
         (corr || (decide (s.config.daaVNoCorr = .preserve) && flagV s.cc)) corr)

/-- CPX sets N and Z of the 16-bit difference and the V of CPX_V_RULE, keeps C, and writes no register (42_arithmetic.md R267,
40_alu.md section 6 (SUB16 and V16)). V and the kept C are the spec's decisions D10 and D11. -/
def Obligations.CompareIndexRegister : Prop :=
  ∀ (src : Src16) (s : State),
    (let m := s.srcWord src
     let r := s.ix - m
     ∃ t, exec (.cpx src) s = .next t ∧ s.newFlags t ∧
       flagH t.cc = flagH s.cc ∧ flagI t.cc = flagI s.cc ∧ flagC t.cc = flagC s.cc ∧
       flagN t.cc = r.getLsbD 15 ∧ flagZ t.cc = decide (r = 0) ∧
       (s.config.cpxVRule = .lowByteOverflow →
         flagV t.cc = decide ((loByte s.ix).toInt - (loByte m).toInt ≠ (loByte r).toInt)) ∧
       (s.config.cpxVRule = .highByteOverflow →
         (let d := (hiByte s.ix).toInt - (hiByte m).toInt -
            (if (loByte s.ix).toNat < (loByte m).toNat then (1 : Int) else 0)
          flagV t.cc = decide (d < -128 ∨ d > 127))))

/-- INX and DEX step IX and write only Z; INS and DES step SP and write no flag; all wrap (42_arithmetic.md R268,
42_arithmetic.md R269, 42_arithmetic.md R270, 42_arithmetic.md R271). The masks are the spec's decision D12. -/
def Obligations.IndexAndStackSteps : Prop :=
  ∀ s : State,
    (∀ p ∈ [(Instr.inx, s.ix + 1), (Instr.dex, s.ix - 1)],
      ∃ t, exec p.1 s = .next t ∧ t = { s with ix := p.2, cc := t.cc } ∧
        ccIs t.cc (flagH s.cc) (flagI s.cc) (flagN s.cc) (decide (p.2 = 0)) (flagV s.cc) (flagC s.cc)) ∧
    exec .ins s = .next { s with sp := s.sp + 1 } ∧ exec .des s = .next { s with sp := s.sp - 1 }

/-- AND, OR and exclusive OR write the accumulator and BIT only the flags, with V clear and C kept (43_logic_shift.md R301,
43_logic_shift.md R302, 43_logic_shift.md R303, 43_logic_shift.md R304, 43_logic_shift.md R305, 43_logic_shift.md R306,
43_logic_shift.md R307, 43_logic_shift.md R308). The flag lines are marked general knowledge by the spec (D4). -/
def Obligations.LogicAndBitTests : Prop :=
  ∀ (src : Src8) (s : State),
    (let m := s.srcByte src
     (∀ p ∈ [(Instr.anda src, Acc.a, s.a &&& m), (Instr.andb src, Acc.b, s.b &&& m), (Instr.oraa src, Acc.a, s.a ||| m),
          (Instr.orab src, Acc.b, s.b ||| m), (Instr.eora src, Acc.a, s.a ^^^ m), (Instr.eorb src, Acc.b, s.b ^^^ m)],
      ∃ t, exec p.1 s = .next t ∧ s.newAcc t p.2.1 ∧ t.acc p.2.1 = p.2.2 ∧ logicFlags p.2.2 s.cc t.cc) ∧
     (∀ p ∈ [(Instr.bita src, s.a &&& m), (Instr.bitb src, s.b &&& m)],
      ∃ t, exec p.1 s = .next t ∧ s.newFlags t ∧ logicFlags p.2 s.cc t.cc))

/-- COMA, COMB and COM write 255 minus the byte, with V clear and C set (43_logic_shift.md R309, 43_logic_shift.md R310,
43_logic_shift.md R311). The flag lines are marked general knowledge by the spec (D4). What a store to ROM or to a device window
leaves in memory is the model's choice (notes/assumptions/4.md). -/
def Obligations.Complements : Prop :=
  ∀ (ref : Ref) (s : State),
    (∀ p ∈ [(Instr.coma, Acc.a), (Instr.comb, Acc.b)],
      ∃ t, exec p.1 s = .next t ∧ t = { s.setAcc p.2 (t.acc p.2) with cc := t.cc } ∧
        (t.acc p.2).toNat = 255 - (s.acc p.2).toNat ∧
        ccIs t.cc (flagH s.cc) (flagI s.cc) ((t.acc p.2).getLsbD 7) (decide (t.acc p.2 = 0)) false true) ∧
    (∃ t r, exec (.com ref) s = .next t ∧ s.modified t (s.refAddr ref) r ∧
      r.toNat = 255 - (s.byteAt (s.refAddr ref)).toNat ∧
      ccIs t.cc (flagH s.cc) (flagI s.cc) (r.getLsbD 7) (decide (r = 0)) false true)

/-- ASL and ROL double the byte mod 256, ROL with the carry in, with C the old bit 7 and V = N xor C (43_logic_shift.md R312,
43_logic_shift.md R313, 43_logic_shift.md R314, 43_logic_shift.md R321, 43_logic_shift.md R322, 43_logic_shift.md R323,
40_alu.md R150). The opcodes are marked general knowledge by the spec. What a store to ROM or to a device window leaves in
memory is the model's choice (notes/assumptions/4.md). -/
def Obligations.LeftShifts : Prop :=
  ∀ (ref : Ref) (s : State),
    (∀ p ∈ [(Instr.asla, Acc.a, 0), (Instr.aslb, Acc.b, 0), (Instr.rola, Acc.a, (flagC s.cc).toNat),
          (Instr.rolb, Acc.b, (flagC s.cc).toNat)],
      ∃ t, exec p.1 s = .next t ∧ t = { s.setAcc p.2.1 (t.acc p.2.1) with cc := t.cc } ∧
        (t.acc p.2.1).toNat = ((s.acc p.2.1).toNat * 2 + p.2.2) % 256 ∧
        shiftFlags (t.acc p.2.1) ((s.acc p.2.1).getLsbD 7) s.cc t.cc) ∧
    (∀ p ∈ [(Instr.asl ref, 0), (Instr.rol ref, (flagC s.cc).toNat)],
      ∃ t r, exec p.1 s = .next t ∧ s.modified t (s.refAddr ref) r ∧
        r.toNat = ((s.byteAt (s.refAddr ref)).toNat * 2 + p.2) % 256 ∧
        shiftFlags r ((s.byteAt (s.refAddr ref)).getLsbD 7) s.cc t.cc)

/-- ASR, LSR and ROR halve the byte with the sign, zero or the carry in at bit 7, C the old bit 0 and V = N xor C
(43_logic_shift.md R315, 43_logic_shift.md R316, 43_logic_shift.md R317, 43_logic_shift.md R318, 43_logic_shift.md R319,
43_logic_shift.md R320, 43_logic_shift.md R324, 43_logic_shift.md R325, 43_logic_shift.md R326, 40_alu.md R150). That ASR keeps
bit 7 is marked general knowledge by the spec (40_alu.md R152). What a store to ROM or to a device window leaves in memory is
the model's choice (notes/assumptions/4.md). -/
def Obligations.RightShifts : Prop :=
  ∀ (ref : Ref) (s : State),
    (∀ p ∈ [(Instr.asra, Acc.a, s.a.getLsbD 7), (Instr.asrb, Acc.b, s.b.getLsbD 7), (Instr.lsra, Acc.a, false),
          (Instr.lsrb, Acc.b, false), (Instr.rora, Acc.a, flagC s.cc), (Instr.rorb, Acc.b, flagC s.cc)],
      ∃ t, exec p.1 s = .next t ∧ t = { s.setAcc p.2.1 (t.acc p.2.1) with cc := t.cc } ∧
        (t.acc p.2.1).toNat = (s.acc p.2.1).toNat / 2 + 128 * p.2.2.toNat ∧
        shiftFlags (t.acc p.2.1) ((s.acc p.2.1).getLsbD 0) s.cc t.cc) ∧
    (∀ p ∈ [(Instr.asr ref, (s.byteAt (s.refAddr ref)).getLsbD 7), (Instr.lsr ref, false), (Instr.ror ref, flagC s.cc)],
      ∃ t r, exec p.1 s = .next t ∧ s.modified t (s.refAddr ref) r ∧
        r.toNat = (s.byteAt (s.refAddr ref)).toNat / 2 + 128 * p.2.toNat ∧
        shiftFlags r ((s.byteAt (s.refAddr ref)).getLsbD 0) s.cc t.cc)

/-- Each of the fifteen branches adds the signed offset to PC exactly when its condition holds, else does nothing (44_control.md
R350, 44_control.md R357, 40_alu.md section 7 (branch table)). The conditions other than BEQ's are marked general knowledge by
the spec (D36). -/
def Obligations.Branches : Prop :=
  ∀ (off : Byte) (s : State),
    (let c := flagC s.cc
     let v := flagV s.cc
     let z := flagZ s.cc
     let n := flagN s.cc
     ∀ p ∈ [(Instr.bra off, true), (.bhi off, !(c || z)), (.bls off, c || z), (.bcc off, !c), (.bcs off, c),
         (.bne off, !z), (.beq off, z), (.bvc off, !v), (.bvs off, v), (.bpl off, !n), (.bmi off, n),
         (.bge off, !(n ^^ v)), (.blt off, n ^^ v), (.bgt off, !(z || (n ^^ v))), (.ble off, z || (n ^^ v))],
       exec p.1 s = .next (if p.2 then { s with pc := s.pc + off.signExtend 16 } else s))

/-- BSR and JSR push the return address and go to the target, JMP only goes there, RTS pulls PC (44_control.md R366,
44_control.md R367, 44_control.md R368, 44_control.md R369). The target of JSR is computed before the push. What a store to ROM
or to a device window leaves in memory is the model's choice (notes/assumptions/4.md). -/
def Obligations.JumpsAndCalls : Prop :=
  ∀ (off : Byte) (ref : Ref) (s : State),
    (∀ p ∈ [(Instr.bsr off, s.pc + off.signExtend 16), (Instr.jsr ref, s.refAddr ref)],
      ∃ t, exec p.1 s = .next t ∧
        t = { s with
              sp := s.sp - 2
              pc := p.2
              mem := t.mem
              bus := s.bus ++ [.write (s.sp - 1) (hiByte s.pc), .write s.sp (loByte s.pc)]
              deviceLog := t.deviceLog } ∧
        s.stored t [(s.sp - 1, hiByte s.pc), (s.sp, loByte s.pc)]) ∧
    exec (.jmp ref) s = .next { s with pc := s.refAddr ref } ∧
    (∃ t, exec .rts s = .next t ∧
      t = { s with sp := s.sp + 2, pc := s.wordAt (s.sp + 1), bus := t.bus, deviceLog := t.deviceLog })

/-- BSR or JSR followed by RTS returns to the next instruction with SP as it was (44_control.md R366, 44_control.md R368,
44_control.md R369, 44_control.md section 2 (return from subroutine)). The property of R369, which the spec derives from R366
and R368. -/
def Obligations.CallThenReturn : Prop :=
  ∀ (off : Byte) (ref : Ref) (s : State) (pc' : Word), s.allRam [s.sp - 1, s.sp] →
    ∀ i ∈ [Instr.bsr off, Instr.jsr ref], ∃ t u, exec i s = .next t ∧ exec .rts { t with pc := pc' } = .next u ∧
      u.pc = s.pc ∧ u.sp = s.sp ∧ u.a = s.a ∧ u.b = s.b ∧ u.ix = s.ix ∧ u.cc = s.cc

/-- PSHA and PSHB store at SP and lower it; PULA and PULB raise SP and load from it; no flag changes (45_stack_cc_system.md
R381, 45_stack_cc_system.md R382, 45_stack_cc_system.md R383, 45_stack_cc_system.md R384, 20_memory.md R79, 20_memory.md R80).
That they write no flag is marked general knowledge by the spec (R380). What a store to ROM or to a device window leaves in
memory is the model's choice (notes/assumptions/4.md). -/
def Obligations.PushesAndPulls : Prop :=
  ∀ s : State,
    (∀ p ∈ [(Instr.psha, s.a), (Instr.pshb, s.b)],
      ∃ t, exec p.1 s = .next t ∧
        t = { s with sp := s.sp - 1, mem := t.mem, bus := s.bus ++ [.write s.sp p.2], deviceLog := t.deviceLog } ∧
        s.stored t [(s.sp, p.2)]) ∧
    (∀ p ∈ [(Instr.pula, Acc.a), (Instr.pulb, Acc.b)],
      ∃ t, exec p.1 s = .next t ∧
        t = { s.setAcc p.2 (s.byteAt (s.sp + 1)) with
              sp := s.sp + 1
              bus := s.bus ++ [.read (s.sp + 1) (s.byteAt (s.sp + 1))]
              deviceLog := t.deviceLog })

/-- CLC, SEC, CLV, SEV, CLI and SEI write one flag each; NOP changes nothing (45_stack_cc_system.md R385, 45_stack_cc_system.md
R386, 45_stack_cc_system.md R387, 45_stack_cc_system.md R388, 45_stack_cc_system.md R389, 45_stack_cc_system.md R390,
45_stack_cc_system.md R391). The opcodes are marked general knowledge by the spec. -/
def Obligations.ConditionCodeInstructions : Prop :=
  ∀ s : State,
    (let h := flagH s.cc
     let i := flagI s.cc
     let n := flagN s.cc
     let z := flagZ s.cc
     let v := flagV s.cc
     let c := flagC s.cc
     (∃ t, exec .clc s = .next t ∧ t = { s with cc := t.cc } ∧ ccIs t.cc h i n z v false) ∧
     (∃ t, exec .sec s = .next t ∧ t = { s with cc := t.cc } ∧ ccIs t.cc h i n z v true) ∧
     (∃ t, exec .clv s = .next t ∧ t = { s with cc := t.cc } ∧ ccIs t.cc h i n z false c) ∧
     (∃ t, exec .sev s = .next t ∧ t = { s with cc := t.cc } ∧ ccIs t.cc h i n z true c) ∧
     (∃ t, exec .cli s = .next t ∧ t = { s with cc := t.cc } ∧ ccIs t.cc h false n z v c) ∧
     (∃ t, exec .sei s = .next t ∧ t = { s with cc := t.cc } ∧ ccIs t.cc h true n z v c) ∧
     exec .nop s = .next s)

/-- RTI pulls CC, B, A, IX and PC; WAI only waits; an illegal opcode only reports its address and byte (45_stack_cc_system.md
R393, 45_stack_cc_system.md R394, 30_encoding.md R118). That RTI discards bits 7:6 is the spec's decision D39, that WAI pushes
nothing its D14. The clause on the illegal sentinel speaks of every opcode: for the 59 listed ones it is R118, for a sentinel
that carries a defined opcode, which the decoder never gives, it is the model's choice (notes/assumptions/15.md). -/
def Obligations.RtiWaiAndIllegal : Prop :=
  (∀ s : State, ∃ t c vb va xh xl ph pl, exec .rti s = .next t ∧
      t = { s with
            a := va
            b := vb
            ix := wordOf xh xl
            sp := s.sp + 7
            pc := wordOf ph pl
            cc := c.setWidth 6
            bus := s.bus ++
              [.read (s.sp + 1) c, .read (s.sp + 2) vb, .read (s.sp + 3) va, .read (s.sp + 4) xh, .read (s.sp + 5) xl,
               .read (s.sp + 6) ph, .read (s.sp + 7) pl]
            deviceLog := t.deviceLog } ∧
      (∀ p ∈ [((1 : Word), c), (2, vb), (3, va), (4, xh), (5, xl), (6, ph), (7, pl)],
        s.kindAt (s.sp + p.1) ≠ .device → p.2 = Memory.read s.mem (s.sp + p.1).toNat)) ∧
    (∀ s : State, exec .wai s = .next { s with run := .waiting }) ∧
    (∀ (op : Byte) (s : State),
      exec (.illegal op) s = .next { s with reports := s.reports ++ [{ addr := s.pc - 1, opcode := op }] })

/-- Every byte of memory an instruction does not store to is unchanged (20_memory.md R72, 20_memory.md R88, 20_memory.md section
5 (bus-access sequence)). The stored addresses are computed with the functions the meanings use (Safety.lean storedAddrs). What
a store to ROM or to a device window leaves in memory is the model's choice (notes/assumptions/4.md). -/
def Obligations.MemoryFrame : Prop :=
  ∀ (i : Instr) (s t : State), exec i s = .next t →
    (∀ b : Nat, (∀ x ∈ storedAddrs i s, x.toNat ≠ b) → Memory.read t.mem b = Memory.read s.mem b) ∧
    (∀ b : Word, b ∉ storedAddrs i s → s.kindAt b ≠ .device → t.byteAt b = s.byteAt b)

/-- A, B, IX and SP change only under the instructions the spec lists for them, PC only under transfers of control (10_state.md
section 1 (register access by instruction), 10_state.md R34). R36 is a summary the spec derives from the instruction rules. -/
def Obligations.RegisterFrame : Prop :=
  ∀ (i : Instr) (s t : State), exec i s = .next t →
    (∀ r : Reg, mayWrite i r = false → t.reg r = s.reg r) ∧ (transfersControl i = false → t.pc = s.pc)

/-- Every flag outside an instruction's affected mask keeps its value (10_state.md R38, 10_state.md R39, 10_state.md R40). The
masks are those of the Flags lines and of the affected column of R126 (Safety.lean flagMask), many of them marked general
knowledge by the spec. -/
def Obligations.FlagFrame : Prop :=
  ∀ (i : Instr) (s t : State), exec i s = .next t →
    (flagH (flagMask i) = false → flagH t.cc = flagH s.cc) ∧ (flagI (flagMask i) = false → flagI t.cc = flagI s.cc) ∧
    (flagN (flagMask i) = false → flagN t.cc = flagN s.cc) ∧ (flagZ (flagMask i) = false → flagZ t.cc = flagZ s.cc) ∧
    (flagV (flagMask i) = false → flagV t.cc = flagV s.cc) ∧ (flagC (flagMask i) = false → flagC t.cc = flagC s.cc)

/-- No instruction touches a line, a latch, the parameters or the coming moves; only WAI the run state, only an illegal opcode
the reports (10_state.md R44, 10_state.md R45, 10_state.md R47, 30_encoding.md R118, 45_stack_cc_system.md R394). The lines and
latches are the host's (R44). That the parameters and the coming moves stand in the state and no instruction changes them is the
model's choice (notes/assumptions/2.md, 7.md). -/
def Obligations.ControlStateFrame : Prop :=
  ∀ (i : Instr) (s t : State), exec i s = .next t →
    t.irqLine = s.irqLine ∧ t.nmiLatch = s.nmiLatch ∧ t.resetLine = s.resetLine ∧ t.haltLine = s.haltLine ∧
    t.resetPending = s.resetPending ∧ t.poweredOnce = s.poweredOnce ∧ t.moves = s.moves ∧ t.config = s.config ∧
    (i ≠ .wai → t.run = s.run) ∧ ((∀ op, i ≠ .illegal op) → t.reports = s.reports)

/-- Each instruction makes exactly the bus transactions of the table, in that order (20_memory.md section 5 (bus-access
sequence), 20_memory.md R73). The table of 20_memory.md R86, the spec's decision D22 (Safety.lean touches). -/
def Obligations.BusSequence : Prop :=
  ∀ (i : Instr) (s t : State), exec i s = .next t →
    ∃ l : List BusAccess, t.bus = s.bus ++ l ∧ l.map touchOf = touches i s

/-- Only CLI, TAP and RTI clear the interrupt mask (10_state.md R40, 60_exceptions.md R412). From the list of the writers of I
in R40: the others set it. Whose move it is stands in the list of moves, which is the model's choice (notes/assumptions/7.md).
-/
def Obligations.MaskClearedOnlyByCliTapRti : Prop :=
  ∀ s t : State, step s = .next t → flagI s.cc = true → flagI t.cc = false →
    s.blockMoves ∧ s.run = .running ∧ s.quiet ∧ s.atMove.fetchInstr.1 ∈ [Instr.cli, Instr.tap, Instr.rti]

/-- A latched NMI is cleared only by its own service, or by a reset action where the parameter says so (10_state.md R44,
60_exceptions.md R411). The parameter is the spec's decision D20. Whose move it is stands in the list of moves, which is the
model's choice (notes/assumptions/7.md). What a store to ROM or to a device window leaves in memory is the model's choice
(notes/assumptions/4.md). -/
def Obligations.NmiLatchClearedOnlyByService : Prop :=
  ∀ s t : State, step s = .next t → s.nmiLatch = true → t.nmiLatch = false →
    s.blockMoves ∧
      (((s.run = .running ∨ s.run = .waiting) ∧ s.resetLine = false ∧ s.resetPending = false ∧ s.haltLine = false ∧
          State.entered { s.atMove with nmiLatch := false, run := .running } t 0xFFFC) ∨
        (s.run = .halted ∧ s.resetPending = true ∧ s.config.nmiClearedByReset = true))

/-- Block moves in Off, in Halted under a line and without a wake make no transaction; a Running block acknowledges RESET at its
next move and block moves keep that (60_exceptions.md R425, 60_exceptions.md R431, 20_memory.md R84, 10_state.md R46,
60_exceptions.md section 7 (raiseRESET)). That no transaction takes place there is in the source's words for RESET (R425) and
the spec's decision D37 for the rest; ten is the length of the longest row of the table of R86 (SWI). In Waiting and Halted the
spec says that nothing changes (R420, R425); that a step in Off changes nothing is the model's choice (notes/assumptions/8.md),
and so are the list of moves and the transactions kept for one step (notes/assumptions/7.md, 10.md). -/
def Obligations.StoppedBlockIsSilent : Prop :=
  ∀ s t : State, step s = .next t →
    t.bus.length ≤ 10 ∧
    (s.blockMoves →
      (s.run = .off ∨ (s.run = .halted ∧ (s.resetLine = true ∨ s.haltLine = true)) ∨
        (s.run = .waiting ∧ s.wakes = false) ∨ (s.run ≠ .halted ∧ t.run = .halted)) →
      t.bus = [] ∧ t.mem = s.mem ∧ t.deviceLog = s.deviceLog ∧ t.pc = s.pc ∧ t.cc = s.cc ∧ ∀ r : Reg, t.reg r = s.reg r) ∧
    (s.blockMoves → s.resetLine = true → s.run = .running ∨ s.haltAck = true → t.haltAck = true ∧ t.bus = [])

end
end

