-- ==== Sys2Proof/Laws/Flags.lean ====
section
/-!
SUPPORT. Laws of the condition-code engine: each flag of a packed value and of a merge under a mask, and when two values are equal.
-/

namespace Sys2Proof.Machine

@[simp] theorem flagH_packCc (h i n z v c : Bool) : flagH (packCc h i n z v c) = h := by
  cases h <;> cases i <;> cases n <;> cases z <;> cases v <;> cases c <;> rfl

@[simp] theorem flagI_packCc (h i n z v c : Bool) : flagI (packCc h i n z v c) = i := by
  cases h <;> cases i <;> cases n <;> cases z <;> cases v <;> cases c <;> rfl

@[simp] theorem flagN_packCc (h i n z v c : Bool) : flagN (packCc h i n z v c) = n := by
  cases h <;> cases i <;> cases n <;> cases z <;> cases v <;> cases c <;> rfl

@[simp] theorem flagZ_packCc (h i n z v c : Bool) : flagZ (packCc h i n z v c) = z := by
  cases h <;> cases i <;> cases n <;> cases z <;> cases v <;> cases c <;> rfl

@[simp] theorem flagV_packCc (h i n z v c : Bool) : flagV (packCc h i n z v c) = v := by
  cases h <;> cases i <;> cases n <;> cases z <;> cases v <;> cases c <;> rfl

@[simp] theorem flagC_packCc (h i n z v c : Bool) : flagC (packCc h i n z v c) = c := by
  cases h <;> cases i <;> cases n <;> cases z <;> cases v <;> cases c <;> rfl

/-- Flag H after a merge: the new one where the mask has it, else the old one. -/
@[simp] theorem flagH_setCc (old mask new : Cc) :
    flagH (setCc old mask new) = if flagH mask then flagH new else flagH old := by
  cases h : mask[5] <;> simp [flagH, setCc, h]

/-- Flag I after a merge: the new one where the mask has it, else the old one. -/
@[simp] theorem flagI_setCc (old mask new : Cc) :
    flagI (setCc old mask new) = if flagI mask then flagI new else flagI old := by
  cases h : mask[4] <;> simp [flagI, setCc, h]

/-- Flag N after a merge: the new one where the mask has it, else the old one. -/
@[simp] theorem flagN_setCc (old mask new : Cc) :
    flagN (setCc old mask new) = if flagN mask then flagN new else flagN old := by
  cases h : mask[3] <;> simp [flagN, setCc, h]

/-- Flag Z after a merge: the new one where the mask has it, else the old one. -/
@[simp] theorem flagZ_setCc (old mask new : Cc) :
    flagZ (setCc old mask new) = if flagZ mask then flagZ new else flagZ old := by
  cases h : mask[2] <;> simp [flagZ, setCc, h]

/-- Flag V after a merge: the new one where the mask has it, else the old one. -/
@[simp] theorem flagV_setCc (old mask new : Cc) :
    flagV (setCc old mask new) = if flagV mask then flagV new else flagV old := by
  cases h : mask[1] <;> simp [flagV, setCc, h]

/-- Flag C after a merge: the new one where the mask has it, else the old one. -/
@[simp] theorem flagC_setCc (old mask new : Cc) :
    flagC (setCc old mask new) = if flagC mask then flagC new else flagC old := by
  cases h : mask[0] <;> simp [flagC, setCc, h]

@[simp] theorem flagH_maskC : flagH maskC = false := rfl
@[simp] theorem flagI_maskC : flagI maskC = false := rfl
@[simp] theorem flagN_maskC : flagN maskC = false := rfl
@[simp] theorem flagZ_maskC : flagZ maskC = false := rfl
@[simp] theorem flagV_maskC : flagV maskC = false := rfl
@[simp] theorem flagC_maskC : flagC maskC = true := rfl
@[simp] theorem flagH_maskV : flagH maskV = false := rfl
@[simp] theorem flagI_maskV : flagI maskV = false := rfl
@[simp] theorem flagN_maskV : flagN maskV = false := rfl
@[simp] theorem flagZ_maskV : flagZ maskV = false := rfl
@[simp] theorem flagV_maskV : flagV maskV = true := rfl
@[simp] theorem flagC_maskV : flagC maskV = false := rfl
@[simp] theorem flagH_maskZ : flagH maskZ = false := rfl
@[simp] theorem flagI_maskZ : flagI maskZ = false := rfl
@[simp] theorem flagN_maskZ : flagN maskZ = false := rfl
@[simp] theorem flagZ_maskZ : flagZ maskZ = true := rfl
@[simp] theorem flagV_maskZ : flagV maskZ = false := rfl
@[simp] theorem flagC_maskZ : flagC maskZ = false := rfl
@[simp] theorem flagH_maskI : flagH maskI = false := rfl
@[simp] theorem flagI_maskI : flagI maskI = true := rfl
@[simp] theorem flagN_maskI : flagN maskI = false := rfl
@[simp] theorem flagZ_maskI : flagZ maskI = false := rfl
@[simp] theorem flagV_maskI : flagV maskI = false := rfl
@[simp] theorem flagC_maskI : flagC maskI = false := rfl
@[simp] theorem flagH_maskNZV : flagH maskNZV = false := rfl
@[simp] theorem flagI_maskNZV : flagI maskNZV = false := rfl
@[simp] theorem flagN_maskNZV : flagN maskNZV = true := rfl
@[simp] theorem flagZ_maskNZV : flagZ maskNZV = true := rfl
@[simp] theorem flagV_maskNZV : flagV maskNZV = true := rfl
@[simp] theorem flagC_maskNZV : flagC maskNZV = false := rfl
@[simp] theorem flagH_maskNZVC : flagH maskNZVC = false := rfl
@[simp] theorem flagI_maskNZVC : flagI maskNZVC = false := rfl
@[simp] theorem flagN_maskNZVC : flagN maskNZVC = true := rfl
@[simp] theorem flagZ_maskNZVC : flagZ maskNZVC = true := rfl
@[simp] theorem flagV_maskNZVC : flagV maskNZVC = true := rfl
@[simp] theorem flagC_maskNZVC : flagC maskNZVC = true := rfl
@[simp] theorem flagH_maskHNZVC : flagH maskHNZVC = true := rfl
@[simp] theorem flagI_maskHNZVC : flagI maskHNZVC = false := rfl
@[simp] theorem flagN_maskHNZVC : flagN maskHNZVC = true := rfl
@[simp] theorem flagZ_maskHNZVC : flagZ maskHNZVC = true := rfl
@[simp] theorem flagV_maskHNZVC : flagV maskHNZVC = true := rfl
@[simp] theorem flagC_maskHNZVC : flagC maskHNZVC = true := rfl
@[simp] theorem flagH_maskAll : flagH maskAll = true := rfl
@[simp] theorem flagI_maskAll : flagI maskAll = true := rfl
@[simp] theorem flagN_maskAll : flagN maskAll = true := rfl
@[simp] theorem flagZ_maskAll : flagZ maskAll = true := rfl
@[simp] theorem flagV_maskAll : flagV maskAll = true := rfl
@[simp] theorem flagC_maskAll : flagC maskAll = true := rfl
@[simp] theorem flagH_zero : flagH 0#6 = false := rfl
@[simp] theorem flagI_zero : flagI 0#6 = false := rfl
@[simp] theorem flagN_zero : flagN 0#6 = false := rfl
@[simp] theorem flagZ_zero : flagZ 0#6 = false := rfl
@[simp] theorem flagV_zero : flagV 0#6 = false := rfl
@[simp] theorem flagC_zero : flagC 0#6 = false := rfl

/-- A merge under the empty mask changes nothing. -/
@[simp] theorem setCc_none (old new : Cc) : setCc old 0#6 new = old := by
  simp only [setCc]; revert old; decide +revert

/-- A condition-code value is its six flags. -/
theorem packCc_flags (x : Cc) : packCc (flagH x) (flagI x) (flagN x) (flagZ x) (flagV x) (flagC x) = x := by
  revert x; decide

/-- Two condition-code values with the same flags are equal. -/
theorem cc_ext {x y : Cc} (hH : flagH x = flagH y) (hI : flagI x = flagI y) (hN : flagN x = flagN y)
    (hZ : flagZ x = flagZ y) (hV : flagV x = flagV y) (hC : flagC x = flagC y) : x = y := by
  rw [← packCc_flags x, ← packCc_flags y, hH, hI, hN, hZ, hV, hC]

/-- The byte image read back is the condition codes, whatever its bits 7:6 (10_state.md R41). -/
theorem ccImage_low (hi : BitVec 2) (x : Cc) : BitVec.extractLsb' 0 6 (hi ++ x) = x := by
  revert hi x; decide

end Sys2Proof.Machine
end

