-- ==== Sys2Proof/Laws/Memory.lean ====
section
/-!
SUPPORT. Laws of memory: what a byte reads as after a write, and that every write keeps the canonical form.
-/

namespace Sys2Proof.Machine

theorem Memory.read_insert (m : Memory) (a b : Nat) (v : Byte) :
    Memory.read (Memory.insert m a v) b = if b = a then v else Memory.read m b := by
  induction m with
  | nil => simp only [Memory.insert, Memory.read, eq_comm]
  | cons c m ih => grind [Memory.insert, Memory.read]

theorem Memory.read_erase (m : Memory) (a b : Nat) :
    Memory.read (Memory.erase m a) b = if b = a then unlistedByte else Memory.read m b := by
  induction m with
  | nil => simp [Memory.erase, Memory.read]
  | cons c m ih =>
    simp only [Memory.erase] at ih
    grind [Memory.erase, Memory.read]

/-- A byte after a write: the byte written, or what was there before. -/
theorem Memory.read_write (m : Memory) (a b : Nat) (v : Byte) :
    Memory.read (Memory.write m a v) b = if b = a then v else Memory.read m b := by
  unfold Memory.write
  split
  · simp_all [Memory.read_erase]
  · exact Memory.read_insert m a b v

theorem Memory.wfFrom_mono {m : Memory} {lo lo' : Nat} (h : Memory.wfFrom lo m = true) (hle : lo' ≤ lo) :
    Memory.wfFrom lo' m = true := by
  cases m <;> grind [Memory.wfFrom]

theorem Memory.wfFrom_insert {m : Memory} {lo a : Nat} {v : Byte} (h : Memory.wfFrom lo m = true)
    (hlo : lo ≤ a) (ha : a < 65536) (hv : v ≠ unlistedByte) : Memory.wfFrom lo (Memory.insert m a v) = true := by
  induction m generalizing lo with
  | nil => grind [Memory.insert, Memory.wfFrom]
  | cons c m ih => grind [Memory.insert, Memory.wfFrom]

theorem Memory.wfFrom_erase {m : Memory} {lo : Nat} (a : Nat) (h : Memory.wfFrom lo m = true) :
    Memory.wfFrom lo (Memory.erase m a) = true := by
  induction m generalizing lo with
  | nil => exact h
  | cons c m ih =>
    obtain ⟨k, x⟩ := c
    simp only [Memory.wfFrom, Bool.and_eq_true, decide_eq_true_eq] at h
    have h' := ih h.2
    simp only [Memory.erase, List.filter_cons] at h' ⊢
    split
    · simp [Memory.wfFrom, h', h.1]
    · exact Memory.wfFrom_mono h' (by omega)

/-- A write inside the address space keeps the canonical form. -/
theorem Memory.wf_write {m : Memory} {a : Nat} (v : Byte) (h : m.wf = true) (ha : a < 65536) :
    (Memory.write m a v).wf = true := by
  unfold Memory.write Memory.wf
  split
  · exact Memory.wfFrom_erase a h
  · exact Memory.wfFrom_insert h (Nat.zero_le a) ha ‹_›

/-- The empty memory of the reset state is canonical. -/
theorem Memory.wf_nil : Memory.wf [] = true := rfl

/-- What a store does to memory keeps the canonical form, whatever stands behind the address. -/
theorem State.memAfterStore_wf {s : State} (a : Word) (v : Byte) (h : s.mem.wf = true) :
    (s.memAfterStore a v).wf = true := by
  unfold State.memAfterStore
  split <;> first | exact Memory.wf_write v h a.isLt | exact h

/-- The byte of memory at any address after a store. -/
theorem State.read_memAfterStore (s : State) (a : Word) (v : Byte) (b : Nat) :
    Memory.read (s.memAfterStore a v) b =
      if b = a.toNat ∧ s.kindAt a = .ram then v else Memory.read s.mem b := by
  unfold State.memAfterStore
  cases s.kindAt a <;> simp [Memory.read_write]

end Sys2Proof.Machine
end

