-- ==== Sys2Proof/Laws/State.lean ====
section
/-!
SUPPORT. What each field of the state is after each primary update: one lemma per field and update, so that no proof unfolds a record
update. `load8`, `fetch8` and the rest are put in terms of these in Laws/Ops.lean.
-/

namespace Sys2Proof.Machine

/-! `logAccess`: a transaction joins the bus and, in a device window, the device's history; nothing else. -/

@[simp] theorem State.logAccess_a (s : State) (addr : Word) (x : BusAccess) :
    (s.logAccess addr x).a = s.a := rfl
@[simp] theorem State.logAccess_b (s : State) (addr : Word) (x : BusAccess) :
    (s.logAccess addr x).b = s.b := rfl
@[simp] theorem State.logAccess_ix (s : State) (addr : Word) (x : BusAccess) :
    (s.logAccess addr x).ix = s.ix := rfl
@[simp] theorem State.logAccess_sp (s : State) (addr : Word) (x : BusAccess) :
    (s.logAccess addr x).sp = s.sp := rfl
@[simp] theorem State.logAccess_pc (s : State) (addr : Word) (x : BusAccess) :
    (s.logAccess addr x).pc = s.pc := rfl
@[simp] theorem State.logAccess_cc (s : State) (addr : Word) (x : BusAccess) :
    (s.logAccess addr x).cc = s.cc := rfl
@[simp] theorem State.logAccess_run (s : State) (addr : Word) (x : BusAccess) :
    (s.logAccess addr x).run = s.run := rfl
@[simp] theorem State.logAccess_irqLine (s : State) (addr : Word) (x : BusAccess) :
    (s.logAccess addr x).irqLine = s.irqLine := rfl
@[simp] theorem State.logAccess_nmiLatch (s : State) (addr : Word) (x : BusAccess) :
    (s.logAccess addr x).nmiLatch = s.nmiLatch := rfl
@[simp] theorem State.logAccess_resetLine (s : State) (addr : Word) (x : BusAccess) :
    (s.logAccess addr x).resetLine = s.resetLine := rfl
@[simp] theorem State.logAccess_haltLine (s : State) (addr : Word) (x : BusAccess) :
    (s.logAccess addr x).haltLine = s.haltLine := rfl
@[simp] theorem State.logAccess_resetPending (s : State) (addr : Word) (x : BusAccess) :
    (s.logAccess addr x).resetPending = s.resetPending := rfl
@[simp] theorem State.logAccess_poweredOnce (s : State) (addr : Word) (x : BusAccess) :
    (s.logAccess addr x).poweredOnce = s.poweredOnce := rfl
@[simp] theorem State.logAccess_mem (s : State) (addr : Word) (x : BusAccess) :
    (s.logAccess addr x).mem = s.mem := rfl
@[simp] theorem State.logAccess_reports (s : State) (addr : Word) (x : BusAccess) :
    (s.logAccess addr x).reports = s.reports := rfl
@[simp] theorem State.logAccess_bus (s : State) (addr : Word) (x : BusAccess) :
    (s.logAccess addr x).bus = s.bus ++ [x] := rfl
@[simp] theorem State.logAccess_deviceLog (s : State) (addr : Word) (x : BusAccess) :
    (s.logAccess addr x).deviceLog = s.deviceLogAfter addr x := rfl
@[simp] theorem State.logAccess_moves (s : State) (addr : Word) (x : BusAccess) :
    (s.logAccess addr x).moves = s.moves := rfl
@[simp] theorem State.logAccess_config (s : State) (addr : Word) (x : BusAccess) :
    (s.logAccess addr x).config = s.config := rfl

/-! `store8`: memory, the bus and the device's history. -/

@[simp] theorem State.store8_a (s : State) (addr : Word) (v : Byte) :
    (s.store8 addr v).a = s.a := rfl
@[simp] theorem State.store8_b (s : State) (addr : Word) (v : Byte) :
    (s.store8 addr v).b = s.b := rfl
@[simp] theorem State.store8_ix (s : State) (addr : Word) (v : Byte) :
    (s.store8 addr v).ix = s.ix := rfl
@[simp] theorem State.store8_sp (s : State) (addr : Word) (v : Byte) :
    (s.store8 addr v).sp = s.sp := rfl
@[simp] theorem State.store8_pc (s : State) (addr : Word) (v : Byte) :
    (s.store8 addr v).pc = s.pc := rfl
@[simp] theorem State.store8_cc (s : State) (addr : Word) (v : Byte) :
    (s.store8 addr v).cc = s.cc := rfl
@[simp] theorem State.store8_run (s : State) (addr : Word) (v : Byte) :
    (s.store8 addr v).run = s.run := rfl
@[simp] theorem State.store8_irqLine (s : State) (addr : Word) (v : Byte) :
    (s.store8 addr v).irqLine = s.irqLine := rfl
@[simp] theorem State.store8_nmiLatch (s : State) (addr : Word) (v : Byte) :
    (s.store8 addr v).nmiLatch = s.nmiLatch := rfl
@[simp] theorem State.store8_resetLine (s : State) (addr : Word) (v : Byte) :
    (s.store8 addr v).resetLine = s.resetLine := rfl
@[simp] theorem State.store8_haltLine (s : State) (addr : Word) (v : Byte) :
    (s.store8 addr v).haltLine = s.haltLine := rfl
@[simp] theorem State.store8_resetPending (s : State) (addr : Word) (v : Byte) :
    (s.store8 addr v).resetPending = s.resetPending := rfl
@[simp] theorem State.store8_poweredOnce (s : State) (addr : Word) (v : Byte) :
    (s.store8 addr v).poweredOnce = s.poweredOnce := rfl
@[simp] theorem State.store8_mem (s : State) (addr : Word) (v : Byte) :
    (s.store8 addr v).mem = s.memAfterStore addr v := rfl
@[simp] theorem State.store8_reports (s : State) (addr : Word) (v : Byte) :
    (s.store8 addr v).reports = s.reports := rfl
@[simp] theorem State.store8_bus (s : State) (addr : Word) (v : Byte) :
    (s.store8 addr v).bus = s.bus ++ [.write addr v] := rfl
@[simp] theorem State.store8_deviceLog (s : State) (addr : Word) (v : Byte) :
    (s.store8 addr v).deviceLog = s.deviceLogAfter addr (.write addr v) := rfl
@[simp] theorem State.store8_moves (s : State) (addr : Word) (v : Byte) :
    (s.store8 addr v).moves = s.moves := rfl
@[simp] theorem State.store8_config (s : State) (addr : Word) (v : Byte) :
    (s.store8 addr v).config = s.config := rfl

/-! `setFlags`: the condition codes. -/

@[simp] theorem State.setFlags_a (s : State) (mask new : Cc) :
    (s.setFlags mask new).a = s.a := rfl
@[simp] theorem State.setFlags_b (s : State) (mask new : Cc) :
    (s.setFlags mask new).b = s.b := rfl
@[simp] theorem State.setFlags_ix (s : State) (mask new : Cc) :
    (s.setFlags mask new).ix = s.ix := rfl
@[simp] theorem State.setFlags_sp (s : State) (mask new : Cc) :
    (s.setFlags mask new).sp = s.sp := rfl
@[simp] theorem State.setFlags_pc (s : State) (mask new : Cc) :
    (s.setFlags mask new).pc = s.pc := rfl
@[simp] theorem State.setFlags_cc (s : State) (mask new : Cc) :
    (s.setFlags mask new).cc = setCc s.cc mask new := rfl
@[simp] theorem State.setFlags_run (s : State) (mask new : Cc) :
    (s.setFlags mask new).run = s.run := rfl
@[simp] theorem State.setFlags_irqLine (s : State) (mask new : Cc) :
    (s.setFlags mask new).irqLine = s.irqLine := rfl
@[simp] theorem State.setFlags_nmiLatch (s : State) (mask new : Cc) :
    (s.setFlags mask new).nmiLatch = s.nmiLatch := rfl
@[simp] theorem State.setFlags_resetLine (s : State) (mask new : Cc) :
    (s.setFlags mask new).resetLine = s.resetLine := rfl
@[simp] theorem State.setFlags_haltLine (s : State) (mask new : Cc) :
    (s.setFlags mask new).haltLine = s.haltLine := rfl
@[simp] theorem State.setFlags_resetPending (s : State) (mask new : Cc) :
    (s.setFlags mask new).resetPending = s.resetPending := rfl
@[simp] theorem State.setFlags_poweredOnce (s : State) (mask new : Cc) :
    (s.setFlags mask new).poweredOnce = s.poweredOnce := rfl
@[simp] theorem State.setFlags_mem (s : State) (mask new : Cc) :
    (s.setFlags mask new).mem = s.mem := rfl
@[simp] theorem State.setFlags_reports (s : State) (mask new : Cc) :
    (s.setFlags mask new).reports = s.reports := rfl
@[simp] theorem State.setFlags_bus (s : State) (mask new : Cc) :
    (s.setFlags mask new).bus = s.bus := rfl
@[simp] theorem State.setFlags_deviceLog (s : State) (mask new : Cc) :
    (s.setFlags mask new).deviceLog = s.deviceLog := rfl
@[simp] theorem State.setFlags_moves (s : State) (mask new : Cc) :
    (s.setFlags mask new).moves = s.moves := rfl
@[simp] theorem State.setFlags_config (s : State) (mask new : Cc) :
    (s.setFlags mask new).config = s.config := rfl

/-! `setAcc_a`: accumulator A. -/

@[simp] theorem State.setAcc_a_a (s : State) (v : Byte) :
    (s.setAcc .a v).a = v := rfl
@[simp] theorem State.setAcc_a_b (s : State) (v : Byte) :
    (s.setAcc .a v).b = s.b := rfl
@[simp] theorem State.setAcc_a_ix (s : State) (v : Byte) :
    (s.setAcc .a v).ix = s.ix := rfl
@[simp] theorem State.setAcc_a_sp (s : State) (v : Byte) :
    (s.setAcc .a v).sp = s.sp := rfl
@[simp] theorem State.setAcc_a_pc (s : State) (v : Byte) :
    (s.setAcc .a v).pc = s.pc := rfl
@[simp] theorem State.setAcc_a_cc (s : State) (v : Byte) :
    (s.setAcc .a v).cc = s.cc := rfl
@[simp] theorem State.setAcc_a_run (s : State) (v : Byte) :
    (s.setAcc .a v).run = s.run := rfl
@[simp] theorem State.setAcc_a_irqLine (s : State) (v : Byte) :
    (s.setAcc .a v).irqLine = s.irqLine := rfl
@[simp] theorem State.setAcc_a_nmiLatch (s : State) (v : Byte) :
    (s.setAcc .a v).nmiLatch = s.nmiLatch := rfl
@[simp] theorem State.setAcc_a_resetLine (s : State) (v : Byte) :
    (s.setAcc .a v).resetLine = s.resetLine := rfl
@[simp] theorem State.setAcc_a_haltLine (s : State) (v : Byte) :
    (s.setAcc .a v).haltLine = s.haltLine := rfl
@[simp] theorem State.setAcc_a_resetPending (s : State) (v : Byte) :
    (s.setAcc .a v).resetPending = s.resetPending := rfl
@[simp] theorem State.setAcc_a_poweredOnce (s : State) (v : Byte) :
    (s.setAcc .a v).poweredOnce = s.poweredOnce := rfl
@[simp] theorem State.setAcc_a_mem (s : State) (v : Byte) :
    (s.setAcc .a v).mem = s.mem := rfl
@[simp] theorem State.setAcc_a_reports (s : State) (v : Byte) :
    (s.setAcc .a v).reports = s.reports := rfl
@[simp] theorem State.setAcc_a_bus (s : State) (v : Byte) :
    (s.setAcc .a v).bus = s.bus := rfl
@[simp] theorem State.setAcc_a_deviceLog (s : State) (v : Byte) :
    (s.setAcc .a v).deviceLog = s.deviceLog := rfl
@[simp] theorem State.setAcc_a_moves (s : State) (v : Byte) :
    (s.setAcc .a v).moves = s.moves := rfl
@[simp] theorem State.setAcc_a_config (s : State) (v : Byte) :
    (s.setAcc .a v).config = s.config := rfl

/-! `setAcc_b`: accumulator B. -/

@[simp] theorem State.setAcc_b_a (s : State) (v : Byte) :
    (s.setAcc .b v).a = s.a := rfl
@[simp] theorem State.setAcc_b_b (s : State) (v : Byte) :
    (s.setAcc .b v).b = v := rfl
@[simp] theorem State.setAcc_b_ix (s : State) (v : Byte) :
    (s.setAcc .b v).ix = s.ix := rfl
@[simp] theorem State.setAcc_b_sp (s : State) (v : Byte) :
    (s.setAcc .b v).sp = s.sp := rfl
@[simp] theorem State.setAcc_b_pc (s : State) (v : Byte) :
    (s.setAcc .b v).pc = s.pc := rfl
@[simp] theorem State.setAcc_b_cc (s : State) (v : Byte) :
    (s.setAcc .b v).cc = s.cc := rfl
@[simp] theorem State.setAcc_b_run (s : State) (v : Byte) :
    (s.setAcc .b v).run = s.run := rfl
@[simp] theorem State.setAcc_b_irqLine (s : State) (v : Byte) :
    (s.setAcc .b v).irqLine = s.irqLine := rfl
@[simp] theorem State.setAcc_b_nmiLatch (s : State) (v : Byte) :
    (s.setAcc .b v).nmiLatch = s.nmiLatch := rfl
@[simp] theorem State.setAcc_b_resetLine (s : State) (v : Byte) :
    (s.setAcc .b v).resetLine = s.resetLine := rfl
@[simp] theorem State.setAcc_b_haltLine (s : State) (v : Byte) :
    (s.setAcc .b v).haltLine = s.haltLine := rfl
@[simp] theorem State.setAcc_b_resetPending (s : State) (v : Byte) :
    (s.setAcc .b v).resetPending = s.resetPending := rfl
@[simp] theorem State.setAcc_b_poweredOnce (s : State) (v : Byte) :
    (s.setAcc .b v).poweredOnce = s.poweredOnce := rfl
@[simp] theorem State.setAcc_b_mem (s : State) (v : Byte) :
    (s.setAcc .b v).mem = s.mem := rfl
@[simp] theorem State.setAcc_b_reports (s : State) (v : Byte) :
    (s.setAcc .b v).reports = s.reports := rfl
@[simp] theorem State.setAcc_b_bus (s : State) (v : Byte) :
    (s.setAcc .b v).bus = s.bus := rfl
@[simp] theorem State.setAcc_b_deviceLog (s : State) (v : Byte) :
    (s.setAcc .b v).deviceLog = s.deviceLog := rfl
@[simp] theorem State.setAcc_b_moves (s : State) (v : Byte) :
    (s.setAcc .b v).moves = s.moves := rfl
@[simp] theorem State.setAcc_b_config (s : State) (v : Byte) :
    (s.setAcc .b v).config = s.config := rfl

/-! `report`: one more report. -/

@[simp] theorem State.report_a (s : State) (addr : Word) (op : Byte) :
    (s.report addr op).a = s.a := rfl
@[simp] theorem State.report_b (s : State) (addr : Word) (op : Byte) :
    (s.report addr op).b = s.b := rfl
@[simp] theorem State.report_ix (s : State) (addr : Word) (op : Byte) :
    (s.report addr op).ix = s.ix := rfl
@[simp] theorem State.report_sp (s : State) (addr : Word) (op : Byte) :
    (s.report addr op).sp = s.sp := rfl
@[simp] theorem State.report_pc (s : State) (addr : Word) (op : Byte) :
    (s.report addr op).pc = s.pc := rfl
@[simp] theorem State.report_cc (s : State) (addr : Word) (op : Byte) :
    (s.report addr op).cc = s.cc := rfl
@[simp] theorem State.report_run (s : State) (addr : Word) (op : Byte) :
    (s.report addr op).run = s.run := rfl
@[simp] theorem State.report_irqLine (s : State) (addr : Word) (op : Byte) :
    (s.report addr op).irqLine = s.irqLine := rfl
@[simp] theorem State.report_nmiLatch (s : State) (addr : Word) (op : Byte) :
    (s.report addr op).nmiLatch = s.nmiLatch := rfl
@[simp] theorem State.report_resetLine (s : State) (addr : Word) (op : Byte) :
    (s.report addr op).resetLine = s.resetLine := rfl
@[simp] theorem State.report_haltLine (s : State) (addr : Word) (op : Byte) :
    (s.report addr op).haltLine = s.haltLine := rfl
@[simp] theorem State.report_resetPending (s : State) (addr : Word) (op : Byte) :
    (s.report addr op).resetPending = s.resetPending := rfl
@[simp] theorem State.report_poweredOnce (s : State) (addr : Word) (op : Byte) :
    (s.report addr op).poweredOnce = s.poweredOnce := rfl
@[simp] theorem State.report_mem (s : State) (addr : Word) (op : Byte) :
    (s.report addr op).mem = s.mem := rfl
@[simp] theorem State.report_reports (s : State) (addr : Word) (op : Byte) :
    (s.report addr op).reports = s.reports ++ [{ addr := addr, opcode := op }] := rfl
@[simp] theorem State.report_bus (s : State) (addr : Word) (op : Byte) :
    (s.report addr op).bus = s.bus := rfl
@[simp] theorem State.report_deviceLog (s : State) (addr : Word) (op : Byte) :
    (s.report addr op).deviceLog = s.deviceLog := rfl
@[simp] theorem State.report_moves (s : State) (addr : Word) (op : Byte) :
    (s.report addr op).moves = s.moves := rfl
@[simp] theorem State.report_config (s : State) (addr : Word) (op : Byte) :
    (s.report addr op).config = s.config := rfl

/-! `setI`: the I flag. -/

@[simp] theorem State.setI_a (s : State) :
    (s.setI).a = s.a := rfl
@[simp] theorem State.setI_b (s : State) :
    (s.setI).b = s.b := rfl
@[simp] theorem State.setI_ix (s : State) :
    (s.setI).ix = s.ix := rfl
@[simp] theorem State.setI_sp (s : State) :
    (s.setI).sp = s.sp := rfl
@[simp] theorem State.setI_pc (s : State) :
    (s.setI).pc = s.pc := rfl
@[simp] theorem State.setI_cc (s : State) :
    (s.setI).cc = setCc s.cc maskI maskI := rfl
@[simp] theorem State.setI_run (s : State) :
    (s.setI).run = s.run := rfl
@[simp] theorem State.setI_irqLine (s : State) :
    (s.setI).irqLine = s.irqLine := rfl
@[simp] theorem State.setI_nmiLatch (s : State) :
    (s.setI).nmiLatch = s.nmiLatch := rfl
@[simp] theorem State.setI_resetLine (s : State) :
    (s.setI).resetLine = s.resetLine := rfl
@[simp] theorem State.setI_haltLine (s : State) :
    (s.setI).haltLine = s.haltLine := rfl
@[simp] theorem State.setI_resetPending (s : State) :
    (s.setI).resetPending = s.resetPending := rfl
@[simp] theorem State.setI_poweredOnce (s : State) :
    (s.setI).poweredOnce = s.poweredOnce := rfl
@[simp] theorem State.setI_mem (s : State) :
    (s.setI).mem = s.mem := rfl
@[simp] theorem State.setI_reports (s : State) :
    (s.setI).reports = s.reports := rfl
@[simp] theorem State.setI_bus (s : State) :
    (s.setI).bus = s.bus := rfl
@[simp] theorem State.setI_deviceLog (s : State) :
    (s.setI).deviceLog = s.deviceLog := rfl
@[simp] theorem State.setI_moves (s : State) :
    (s.setI).moves = s.moves := rfl
@[simp] theorem State.setI_config (s : State) :
    (s.setI).config = s.config := rfl

end Sys2Proof.Machine
end

