-- ==== Sys2Proof/Laws/Ops.lean ====
section
/-!
SUPPORT. One lemma per shared operation, saying everything it does: what it returns and the state it leaves, in terms of the primary
updates of Laws/State.lean; then what stays the same across them, and that they keep memory canonical.
-/

namespace Sys2Proof.Machine

/-! Loads and fetch. -/

@[simp] theorem State.load8_fst (s : State) (a : Word) : (s.load8 a).1 = s.byteAt a := rfl

@[simp] theorem State.load8_snd (s : State) (a : Word) :
    (s.load8 a).2 = s.logAccess a (.read a (s.byteAt a)) := rfl

/-- A word load is the byte at the address over the byte at the next, two transactions (20_memory.md R74). -/
theorem State.load16_eq (s : State) (a : Word) :
    s.load16 a = (wordOf (s.byteAt a) ((s.load8 a).2.byteAt (a + 1)), ((s.load8 a).2.load8 (a + 1)).2) := rfl

/-- A fetch is a load at PC, and PC one further (R78). -/
theorem State.fetch8_eq (s : State) :
    s.fetch8 = (s.byteAt s.pc, { (s.load8 s.pc).2 with pc := s.pc + 1 }) := rfl

/-- Reading a byte operand changes the bus and the device history only. -/
theorem State.readSrc8_snd (s : State) (src : Src8) :
    (s.readSrc8 src).2 = { s with bus := (s.readSrc8 src).2.bus, deviceLog := (s.readSrc8 src).2.deviceLog } := by
  cases src <;> rfl

/-- Reading a word operand changes the bus and the device history only. -/
theorem State.readSrc16_snd (s : State) (src : Src16) :
    (s.readSrc16 src).2 =
      { s with bus := (s.readSrc16 src).2.bus, deviceLog := (s.readSrc16 src).2.deviceLog } := by
  cases src <;> rfl

/-! The stack. -/

/-- A push of a byte stores at the old SP and lowers SP by one (R79). -/
theorem State.push8_eq (s : State) (v : Byte) : s.push8 v = { s.store8 s.sp v with sp := s.sp - 1 } := by
  have h : s.sp - 1 + 1 = s.sp := by bv_omega
  simp only [State.push8, h]
  rfl

/-- A push of a word stores high byte at SP - 1, then low byte at SP, and lowers SP by two (R79). -/
theorem State.push16_eq (s : State) (v : Word) :
    s.push16 v = { (s.store8 (s.sp - 1) (hiByte v)).store8 s.sp (loByte v) with sp := s.sp - 2 } := by
  have h : s.sp - 2 + 1 = s.sp - 1 := by bv_omega
  have h' : s.sp - 1 + 1 = s.sp := by bv_omega
  simp only [State.push16, State.store16, h, h']
  rfl

/-- A pull of a byte loads at SP + 1 and raises SP by one (R80). -/
theorem State.pull8_eq (s : State) :
    s.pull8 = (s.byteAt (s.sp + 1), { (s.load8 (s.sp + 1)).2 with sp := s.sp + 1 }) := rfl

/-- A pull of a word loads at SP + 1 and SP + 2 and raises SP by two (R80). -/
theorem State.pull16_eq (s : State) :
    s.pull16 = ((s.load16 (s.sp + 1)).1, { (s.load16 (s.sp + 1)).2 with sp := s.sp + 2 }) := rfl

/-! A word load changes the bus and the device's history only. -/

@[simp] theorem State.load16_snd_a (s : State) (addr : Word) : ((s.load16 addr).2).a = s.a := rfl
@[simp] theorem State.load16_snd_b (s : State) (addr : Word) : ((s.load16 addr).2).b = s.b := rfl
@[simp] theorem State.load16_snd_ix (s : State) (addr : Word) : ((s.load16 addr).2).ix = s.ix := rfl
@[simp] theorem State.load16_snd_sp (s : State) (addr : Word) : ((s.load16 addr).2).sp = s.sp := rfl
@[simp] theorem State.load16_snd_pc (s : State) (addr : Word) : ((s.load16 addr).2).pc = s.pc := rfl
@[simp] theorem State.load16_snd_cc (s : State) (addr : Word) : ((s.load16 addr).2).cc = s.cc := rfl
@[simp] theorem State.load16_snd_run (s : State) (addr : Word) : ((s.load16 addr).2).run = s.run := rfl
@[simp] theorem State.load16_snd_irqLine (s : State) (addr : Word) : ((s.load16 addr).2).irqLine = s.irqLine := rfl
@[simp] theorem State.load16_snd_nmiLatch (s : State) (addr : Word) : ((s.load16 addr).2).nmiLatch = s.nmiLatch := rfl
@[simp] theorem State.load16_snd_resetLine (s : State) (addr : Word) : ((s.load16 addr).2).resetLine = s.resetLine :=
    rfl
@[simp] theorem State.load16_snd_haltLine (s : State) (addr : Word) : ((s.load16 addr).2).haltLine = s.haltLine := rfl
@[simp] theorem State.load16_snd_resetPending (s : State) (addr : Word) : ((s.load16 addr).2).resetPending = s.resetPending :=
    rfl
@[simp] theorem State.load16_snd_poweredOnce (s : State) (addr : Word) : ((s.load16 addr).2).poweredOnce = s.poweredOnce :=
    rfl
@[simp] theorem State.load16_snd_mem (s : State) (addr : Word) : ((s.load16 addr).2).mem = s.mem := rfl
@[simp] theorem State.load16_snd_reports (s : State) (addr : Word) : ((s.load16 addr).2).reports = s.reports := rfl
@[simp] theorem State.load16_snd_bus (s : State) (addr : Word) : ((s.load16 addr).2).bus = (s.bus ++ [.read addr (s.byteAt addr)]) ++ [.read (addr + 1) ((s.load8 addr).2.byteAt (addr + 1))] :=
    rfl
@[simp] theorem State.load16_snd_moves (s : State) (addr : Word) : ((s.load16 addr).2).moves = s.moves := rfl
@[simp] theorem State.load16_snd_config (s : State) (addr : Word) : ((s.load16 addr).2).config = s.config := rfl

/-! A fetch changes PC as well. -/

@[simp] theorem State.fetch8_snd_a (s : State) : (s.fetch8.2).a = s.a := rfl
@[simp] theorem State.fetch8_snd_b (s : State) : (s.fetch8.2).b = s.b := rfl
@[simp] theorem State.fetch8_snd_ix (s : State) : (s.fetch8.2).ix = s.ix := rfl
@[simp] theorem State.fetch8_snd_sp (s : State) : (s.fetch8.2).sp = s.sp := rfl
@[simp] theorem State.fetch8_snd_pc (s : State) : (s.fetch8.2).pc = s.pc + 1 := rfl
@[simp] theorem State.fetch8_snd_cc (s : State) : (s.fetch8.2).cc = s.cc := rfl
@[simp] theorem State.fetch8_snd_run (s : State) : (s.fetch8.2).run = s.run := rfl
@[simp] theorem State.fetch8_snd_irqLine (s : State) : (s.fetch8.2).irqLine = s.irqLine := rfl
@[simp] theorem State.fetch8_snd_nmiLatch (s : State) : (s.fetch8.2).nmiLatch = s.nmiLatch := rfl
@[simp] theorem State.fetch8_snd_resetLine (s : State) : (s.fetch8.2).resetLine = s.resetLine := rfl
@[simp] theorem State.fetch8_snd_haltLine (s : State) : (s.fetch8.2).haltLine = s.haltLine := rfl
@[simp] theorem State.fetch8_snd_resetPending (s : State) : (s.fetch8.2).resetPending = s.resetPending := rfl
@[simp] theorem State.fetch8_snd_poweredOnce (s : State) : (s.fetch8.2).poweredOnce = s.poweredOnce := rfl
@[simp] theorem State.fetch8_snd_mem (s : State) : (s.fetch8.2).mem = s.mem := rfl
@[simp] theorem State.fetch8_snd_reports (s : State) : (s.fetch8.2).reports = s.reports := rfl
@[simp] theorem State.fetch8_snd_bus (s : State) : (s.fetch8.2).bus = s.bus ++ [.read s.pc (s.byteAt s.pc)] := rfl
@[simp] theorem State.fetch8_snd_deviceLog (s : State) : (s.fetch8.2).deviceLog = s.deviceLogAfter s.pc (.read s.pc (s.byteAt s.pc)) :=
    rfl
@[simp] theorem State.fetch8_snd_moves (s : State) : (s.fetch8.2).moves = s.moves := rfl
@[simp] theorem State.fetch8_snd_config (s : State) : (s.fetch8.2).config = s.config := rfl

/-! A word store changes memory, the bus and the device's history. -/

@[simp] theorem State.store16_a (s : State) (addr v : Word) : (s.store16 addr v).a = s.a := rfl
@[simp] theorem State.store16_b (s : State) (addr v : Word) : (s.store16 addr v).b = s.b := rfl
@[simp] theorem State.store16_ix (s : State) (addr v : Word) : (s.store16 addr v).ix = s.ix := rfl
@[simp] theorem State.store16_sp (s : State) (addr v : Word) : (s.store16 addr v).sp = s.sp := rfl
@[simp] theorem State.store16_pc (s : State) (addr v : Word) : (s.store16 addr v).pc = s.pc := rfl
@[simp] theorem State.store16_cc (s : State) (addr v : Word) : (s.store16 addr v).cc = s.cc := rfl
@[simp] theorem State.store16_run (s : State) (addr v : Word) : (s.store16 addr v).run = s.run := rfl
@[simp] theorem State.store16_irqLine (s : State) (addr v : Word) : (s.store16 addr v).irqLine = s.irqLine := rfl
@[simp] theorem State.store16_nmiLatch (s : State) (addr v : Word) : (s.store16 addr v).nmiLatch = s.nmiLatch := rfl
@[simp] theorem State.store16_resetLine (s : State) (addr v : Word) : (s.store16 addr v).resetLine = s.resetLine :=
    rfl
@[simp] theorem State.store16_haltLine (s : State) (addr v : Word) : (s.store16 addr v).haltLine = s.haltLine := rfl
@[simp] theorem State.store16_resetPending (s : State) (addr v : Word) : (s.store16 addr v).resetPending = s.resetPending :=
    rfl
@[simp] theorem State.store16_poweredOnce (s : State) (addr v : Word) : (s.store16 addr v).poweredOnce = s.poweredOnce :=
    rfl
@[simp] theorem State.store16_mem (s : State) (addr v : Word) : (s.store16 addr v).mem = (s.store8 addr (hiByte v)).memAfterStore (addr + 1) (loByte v) :=
    rfl
@[simp] theorem State.store16_reports (s : State) (addr v : Word) : (s.store16 addr v).reports = s.reports := rfl
@[simp] theorem State.store16_bus (s : State) (addr v : Word) : (s.store16 addr v).bus = (s.bus ++ [.write addr (hiByte v)]) ++ [.write (addr + 1) (loByte v)] :=
    rfl
@[simp] theorem State.store16_moves (s : State) (addr v : Word) : (s.store16 addr v).moves = s.moves := rfl
@[simp] theorem State.store16_config (s : State) (addr v : Word) : (s.store16 addr v).config = s.config := rfl

/-! Pushes: SP, memory, the bus and the device's history. -/

@[simp] theorem State.push8_a (s : State) (v : Byte) : (s.push8 v).a = s.a := rfl
@[simp] theorem State.push8_b (s : State) (v : Byte) : (s.push8 v).b = s.b := rfl
@[simp] theorem State.push8_ix (s : State) (v : Byte) : (s.push8 v).ix = s.ix := rfl
@[simp] theorem State.push8_sp (s : State) (v : Byte) : (s.push8 v).sp = s.sp - 1 := rfl
@[simp] theorem State.push8_pc (s : State) (v : Byte) : (s.push8 v).pc = s.pc := rfl
@[simp] theorem State.push8_cc (s : State) (v : Byte) : (s.push8 v).cc = s.cc := rfl
@[simp] theorem State.push8_run (s : State) (v : Byte) : (s.push8 v).run = s.run := rfl
@[simp] theorem State.push8_irqLine (s : State) (v : Byte) : (s.push8 v).irqLine = s.irqLine := rfl
@[simp] theorem State.push8_nmiLatch (s : State) (v : Byte) : (s.push8 v).nmiLatch = s.nmiLatch := rfl
@[simp] theorem State.push8_resetLine (s : State) (v : Byte) : (s.push8 v).resetLine = s.resetLine := rfl
@[simp] theorem State.push8_haltLine (s : State) (v : Byte) : (s.push8 v).haltLine = s.haltLine := rfl
@[simp] theorem State.push8_resetPending (s : State) (v : Byte) : (s.push8 v).resetPending = s.resetPending := rfl
@[simp] theorem State.push8_poweredOnce (s : State) (v : Byte) : (s.push8 v).poweredOnce = s.poweredOnce := rfl
@[simp] theorem State.push8_mem (s : State) (v : Byte) : (s.push8 v).mem = s.memAfterStore s.sp v := by
  rw [State.push8_eq]; rfl
@[simp] theorem State.push8_reports (s : State) (v : Byte) : (s.push8 v).reports = s.reports := rfl
@[simp] theorem State.push8_bus (s : State) (v : Byte) : (s.push8 v).bus = s.bus ++ [.write s.sp v] := by
  rw [State.push8_eq]; rfl
@[simp] theorem State.push8_deviceLog (s : State) (v : Byte) : (s.push8 v).deviceLog = s.deviceLogAfter s.sp (.write s.sp v) := by
  rw [State.push8_eq]; rfl
@[simp] theorem State.push8_moves (s : State) (v : Byte) : (s.push8 v).moves = s.moves := rfl
@[simp] theorem State.push8_config (s : State) (v : Byte) : (s.push8 v).config = s.config := rfl

@[simp] theorem State.push16_a (s : State) (v : Word) : (s.push16 v).a = s.a := rfl
@[simp] theorem State.push16_b (s : State) (v : Word) : (s.push16 v).b = s.b := rfl
@[simp] theorem State.push16_ix (s : State) (v : Word) : (s.push16 v).ix = s.ix := rfl
@[simp] theorem State.push16_sp (s : State) (v : Word) : (s.push16 v).sp = s.sp - 2 := rfl
@[simp] theorem State.push16_pc (s : State) (v : Word) : (s.push16 v).pc = s.pc := rfl
@[simp] theorem State.push16_cc (s : State) (v : Word) : (s.push16 v).cc = s.cc := rfl
@[simp] theorem State.push16_run (s : State) (v : Word) : (s.push16 v).run = s.run := rfl
@[simp] theorem State.push16_irqLine (s : State) (v : Word) : (s.push16 v).irqLine = s.irqLine := rfl
@[simp] theorem State.push16_nmiLatch (s : State) (v : Word) : (s.push16 v).nmiLatch = s.nmiLatch := rfl
@[simp] theorem State.push16_resetLine (s : State) (v : Word) : (s.push16 v).resetLine = s.resetLine := rfl
@[simp] theorem State.push16_haltLine (s : State) (v : Word) : (s.push16 v).haltLine = s.haltLine := rfl
@[simp] theorem State.push16_resetPending (s : State) (v : Word) : (s.push16 v).resetPending = s.resetPending := rfl
@[simp] theorem State.push16_poweredOnce (s : State) (v : Word) : (s.push16 v).poweredOnce = s.poweredOnce := rfl
@[simp] theorem State.push16_mem (s : State) (v : Word) : (s.push16 v).mem = ((s.store8 (s.sp - 1) (hiByte v)).store8 s.sp (loByte v)).mem := by
  rw [State.push16_eq]
@[simp] theorem State.push16_reports (s : State) (v : Word) : (s.push16 v).reports = s.reports := rfl
@[simp] theorem State.push16_bus (s : State) (v : Word) : (s.push16 v).bus = (s.bus ++ [.write (s.sp - 1) (hiByte v)]) ++ [.write s.sp (loByte v)] := by
  rw [State.push16_eq]; rfl
@[simp] theorem State.push16_moves (s : State) (v : Word) : (s.push16 v).moves = s.moves := rfl
@[simp] theorem State.push16_config (s : State) (v : Word) : (s.push16 v).config = s.config := rfl

/-! Pulls: SP, the bus and the device's history. -/

@[simp] theorem State.pull8_snd_a (s : State) : (s.pull8.2).a = s.a := rfl
@[simp] theorem State.pull8_snd_b (s : State) : (s.pull8.2).b = s.b := rfl
@[simp] theorem State.pull8_snd_ix (s : State) : (s.pull8.2).ix = s.ix := rfl
@[simp] theorem State.pull8_snd_sp (s : State) : (s.pull8.2).sp = s.sp + 1 := rfl
@[simp] theorem State.pull8_snd_pc (s : State) : (s.pull8.2).pc = s.pc := rfl
@[simp] theorem State.pull8_snd_cc (s : State) : (s.pull8.2).cc = s.cc := rfl
@[simp] theorem State.pull8_snd_run (s : State) : (s.pull8.2).run = s.run := rfl
@[simp] theorem State.pull8_snd_irqLine (s : State) : (s.pull8.2).irqLine = s.irqLine := rfl
@[simp] theorem State.pull8_snd_nmiLatch (s : State) : (s.pull8.2).nmiLatch = s.nmiLatch := rfl
@[simp] theorem State.pull8_snd_resetLine (s : State) : (s.pull8.2).resetLine = s.resetLine := rfl
@[simp] theorem State.pull8_snd_haltLine (s : State) : (s.pull8.2).haltLine = s.haltLine := rfl
@[simp] theorem State.pull8_snd_resetPending (s : State) : (s.pull8.2).resetPending = s.resetPending := rfl
@[simp] theorem State.pull8_snd_poweredOnce (s : State) : (s.pull8.2).poweredOnce = s.poweredOnce := rfl
@[simp] theorem State.pull8_snd_mem (s : State) : (s.pull8.2).mem = s.mem := rfl
@[simp] theorem State.pull8_snd_reports (s : State) : (s.pull8.2).reports = s.reports := rfl
@[simp] theorem State.pull8_snd_bus (s : State) : (s.pull8.2).bus = s.bus ++ [.read (s.sp + 1) (s.byteAt (s.sp + 1))] :=
    rfl
@[simp] theorem State.pull8_snd_deviceLog (s : State) : (s.pull8.2).deviceLog = s.deviceLogAfter (s.sp + 1) (.read (s.sp + 1) (s.byteAt (s.sp + 1))) :=
    rfl
@[simp] theorem State.pull8_snd_moves (s : State) : (s.pull8.2).moves = s.moves := rfl
@[simp] theorem State.pull8_snd_config (s : State) : (s.pull8.2).config = s.config := rfl

@[simp] theorem State.pull16_snd_a (s : State) : (s.pull16.2).a = s.a := rfl
@[simp] theorem State.pull16_snd_b (s : State) : (s.pull16.2).b = s.b := rfl
@[simp] theorem State.pull16_snd_ix (s : State) : (s.pull16.2).ix = s.ix := rfl
@[simp] theorem State.pull16_snd_sp (s : State) : (s.pull16.2).sp = s.sp + 2 := rfl
@[simp] theorem State.pull16_snd_pc (s : State) : (s.pull16.2).pc = s.pc := rfl
@[simp] theorem State.pull16_snd_cc (s : State) : (s.pull16.2).cc = s.cc := rfl
@[simp] theorem State.pull16_snd_run (s : State) : (s.pull16.2).run = s.run := rfl
@[simp] theorem State.pull16_snd_irqLine (s : State) : (s.pull16.2).irqLine = s.irqLine := rfl
@[simp] theorem State.pull16_snd_nmiLatch (s : State) : (s.pull16.2).nmiLatch = s.nmiLatch := rfl
@[simp] theorem State.pull16_snd_resetLine (s : State) : (s.pull16.2).resetLine = s.resetLine := rfl
@[simp] theorem State.pull16_snd_haltLine (s : State) : (s.pull16.2).haltLine = s.haltLine := rfl
@[simp] theorem State.pull16_snd_resetPending (s : State) : (s.pull16.2).resetPending = s.resetPending := rfl
@[simp] theorem State.pull16_snd_poweredOnce (s : State) : (s.pull16.2).poweredOnce = s.poweredOnce := rfl
@[simp] theorem State.pull16_snd_mem (s : State) : (s.pull16.2).mem = s.mem := rfl
@[simp] theorem State.pull16_snd_reports (s : State) : (s.pull16.2).reports = s.reports := rfl
@[simp] theorem State.pull16_snd_bus (s : State) : (s.pull16.2).bus = (s.load16 (s.sp + 1)).2.bus := rfl
@[simp] theorem State.pull16_snd_deviceLog (s : State) : (s.pull16.2).deviceLog = (s.load16 (s.sp + 1)).2.deviceLog :=
    rfl
@[simp] theorem State.pull16_snd_moves (s : State) : (s.pull16.2).moves = s.moves := rfl
@[simp] theorem State.pull16_snd_config (s : State) : (s.pull16.2).config = s.config := rfl

/-! A vector load: PC, the bus and the device's history. -/

@[simp] theorem State.loadVector_a (s : State) (vector : Word) : (s.loadVector vector).a = s.a := rfl
@[simp] theorem State.loadVector_b (s : State) (vector : Word) : (s.loadVector vector).b = s.b := rfl
@[simp] theorem State.loadVector_ix (s : State) (vector : Word) : (s.loadVector vector).ix = s.ix := rfl
@[simp] theorem State.loadVector_sp (s : State) (vector : Word) : (s.loadVector vector).sp = s.sp := rfl
@[simp] theorem State.loadVector_pc (s : State) (vector : Word) : (s.loadVector vector).pc = (s.load16 vector).1 :=
    rfl
@[simp] theorem State.loadVector_cc (s : State) (vector : Word) : (s.loadVector vector).cc = s.cc := rfl
@[simp] theorem State.loadVector_run (s : State) (vector : Word) : (s.loadVector vector).run = s.run := rfl
@[simp] theorem State.loadVector_irqLine (s : State) (vector : Word) : (s.loadVector vector).irqLine = s.irqLine :=
    rfl
@[simp] theorem State.loadVector_nmiLatch (s : State) (vector : Word) : (s.loadVector vector).nmiLatch = s.nmiLatch :=
    rfl
@[simp] theorem State.loadVector_resetLine (s : State) (vector : Word) : (s.loadVector vector).resetLine = s.resetLine :=
    rfl
@[simp] theorem State.loadVector_haltLine (s : State) (vector : Word) : (s.loadVector vector).haltLine = s.haltLine :=
    rfl
@[simp] theorem State.loadVector_resetPending (s : State) (vector : Word) : (s.loadVector vector).resetPending = s.resetPending :=
    rfl
@[simp] theorem State.loadVector_poweredOnce (s : State) (vector : Word) : (s.loadVector vector).poweredOnce = s.poweredOnce :=
    rfl
@[simp] theorem State.loadVector_mem (s : State) (vector : Word) : (s.loadVector vector).mem = s.mem := rfl
@[simp] theorem State.loadVector_reports (s : State) (vector : Word) : (s.loadVector vector).reports = s.reports :=
    rfl
@[simp] theorem State.loadVector_bus (s : State) (vector : Word) : (s.loadVector vector).bus = (s.load16 vector).2.bus :=
    rfl
@[simp] theorem State.loadVector_deviceLog (s : State) (vector : Word) : (s.loadVector vector).deviceLog = (s.load16 vector).2.deviceLog :=
    rfl
@[simp] theorem State.loadVector_moves (s : State) (vector : Word) : (s.loadVector vector).moves = s.moves := rfl
@[simp] theorem State.loadVector_config (s : State) (vector : Word) : (s.loadVector vector).config = s.config := rfl

/-! An entry: SP lower by seven, I set, PC from the vector; the frame in memory (60_exceptions.md R415). -/

@[simp] theorem State.enterFrame_a (s : State) (vector : Word) : (s.enterFrame vector).a = s.a := by
  simp [State.enterFrame]
@[simp] theorem State.enterFrame_b (s : State) (vector : Word) : (s.enterFrame vector).b = s.b := by
  simp [State.enterFrame]
@[simp] theorem State.enterFrame_ix (s : State) (vector : Word) : (s.enterFrame vector).ix = s.ix := by
  simp [State.enterFrame]
@[simp] theorem State.enterFrame_cc (s : State) (vector : Word) : (s.enterFrame vector).cc = setCc s.cc maskI maskI := by
  simp [State.enterFrame]
@[simp] theorem State.enterFrame_run (s : State) (vector : Word) : (s.enterFrame vector).run = s.run := by
  simp [State.enterFrame]
@[simp] theorem State.enterFrame_irqLine (s : State) (vector : Word) : (s.enterFrame vector).irqLine = s.irqLine := by
  simp [State.enterFrame]
@[simp] theorem State.enterFrame_nmiLatch (s : State) (vector : Word) : (s.enterFrame vector).nmiLatch = s.nmiLatch := by
  simp [State.enterFrame]
@[simp] theorem State.enterFrame_resetLine (s : State) (vector : Word) : (s.enterFrame vector).resetLine = s.resetLine := by
  simp [State.enterFrame]
@[simp] theorem State.enterFrame_haltLine (s : State) (vector : Word) : (s.enterFrame vector).haltLine = s.haltLine := by
  simp [State.enterFrame]
@[simp] theorem State.enterFrame_resetPending (s : State) (vector : Word) : (s.enterFrame vector).resetPending = s.resetPending := by
  simp [State.enterFrame]
@[simp] theorem State.enterFrame_poweredOnce (s : State) (vector : Word) : (s.enterFrame vector).poweredOnce = s.poweredOnce := by
  simp [State.enterFrame]
@[simp] theorem State.enterFrame_reports (s : State) (vector : Word) : (s.enterFrame vector).reports = s.reports := by
  simp [State.enterFrame]
@[simp] theorem State.enterFrame_moves (s : State) (vector : Word) : (s.enterFrame vector).moves = s.moves := by
  simp [State.enterFrame]
@[simp] theorem State.enterFrame_config (s : State) (vector : Word) : (s.enterFrame vector).config = s.config := by
  simp [State.enterFrame]
@[simp] theorem State.enterFrame_sp (s : State) (vector : Word) : (s.enterFrame vector).sp = s.sp - 7 := by
  simp only [State.enterFrame, State.loadVector_sp, State.setI_sp, State.push8_sp, State.push16_sp,
    BitVec.sub_eq_add_neg, BitVec.add_assoc]
  rfl

/-! A return from interrupt touches the registers, the bus and the device's history only. -/

@[simp] theorem State.returnFromInterrupt_run (s : State) : (s.returnFromInterrupt).run = s.run := by
  simp [State.returnFromInterrupt]
@[simp] theorem State.returnFromInterrupt_irqLine (s : State) : (s.returnFromInterrupt).irqLine = s.irqLine := by
  simp [State.returnFromInterrupt]
@[simp] theorem State.returnFromInterrupt_nmiLatch (s : State) : (s.returnFromInterrupt).nmiLatch = s.nmiLatch := by
  simp [State.returnFromInterrupt]
@[simp] theorem State.returnFromInterrupt_resetLine (s : State) : (s.returnFromInterrupt).resetLine = s.resetLine := by
  simp [State.returnFromInterrupt]
@[simp] theorem State.returnFromInterrupt_haltLine (s : State) : (s.returnFromInterrupt).haltLine = s.haltLine := by
  simp [State.returnFromInterrupt]
@[simp] theorem State.returnFromInterrupt_resetPending (s : State) : (s.returnFromInterrupt).resetPending = s.resetPending := by
  simp [State.returnFromInterrupt]
@[simp] theorem State.returnFromInterrupt_poweredOnce (s : State) : (s.returnFromInterrupt).poweredOnce = s.poweredOnce := by
  simp [State.returnFromInterrupt]
@[simp] theorem State.returnFromInterrupt_mem (s : State) : (s.returnFromInterrupt).mem = s.mem := by
  simp [State.returnFromInterrupt]
@[simp] theorem State.returnFromInterrupt_reports (s : State) : (s.returnFromInterrupt).reports = s.reports := by
  simp [State.returnFromInterrupt]
@[simp] theorem State.returnFromInterrupt_moves (s : State) : (s.returnFromInterrupt).moves = s.moves := by
  simp [State.returnFromInterrupt]
@[simp] theorem State.returnFromInterrupt_config (s : State) : (s.returnFromInterrupt).config = s.config := by
  simp [State.returnFromInterrupt]
@[simp] theorem State.returnFromInterrupt_sp (s : State) : s.returnFromInterrupt.sp = s.sp + 7 := by
  simp only [State.returnFromInterrupt, State.pull16_snd_sp, State.pull8_snd_sp, BitVec.add_assoc]
  rfl

/-! Bytes across updates. -/

/-- What stands behind an address depends on the parameters only. -/
theorem State.kindAt_congr {s t : State} (h : t.config = s.config) (a : Word) : t.kindAt a = s.kindAt a := by
  simp only [State.kindAt, h]

/-! What stands behind an address is the same across every operation. -/

@[simp] theorem State.kindAt_logAccess (s : State) (x : Word) (y : BusAccess) (a : Word) : (s.logAccess x y).kindAt a = s.kindAt a := rfl
@[simp] theorem State.kindAt_store8 (s : State) (x : Word) (v : Byte) (a : Word) : (s.store8 x v).kindAt a = s.kindAt a := rfl
@[simp] theorem State.kindAt_store16 (s : State) (x v : Word) (a : Word) : (s.store16 x v).kindAt a = s.kindAt a := rfl
@[simp] theorem State.kindAt_setFlags (s : State) (mask new : Cc) (a : Word) : (s.setFlags mask new).kindAt a = s.kindAt a := rfl
@[simp] theorem State.kindAt_setI (s : State) (a : Word) : (s.setI).kindAt a = s.kindAt a := rfl
@[simp] theorem State.kindAt_push8 (s : State) (v : Byte) (a : Word) : (s.push8 v).kindAt a = s.kindAt a := rfl
@[simp] theorem State.kindAt_push16 (s : State) (v : Word) (a : Word) : (s.push16 v).kindAt a = s.kindAt a := rfl
@[simp] theorem State.kindAt_pull8_snd (s : State) (a : Word) : (s.pull8.2).kindAt a = s.kindAt a := rfl
@[simp] theorem State.kindAt_pull16_snd (s : State) (a : Word) : (s.pull16.2).kindAt a = s.kindAt a := rfl
@[simp] theorem State.kindAt_load16_snd (s : State) (x : Word) (a : Word) : ((s.load16 x).2).kindAt a = s.kindAt a := rfl
@[simp] theorem State.kindAt_fetch8_snd (s : State) (a : Word) : (s.fetch8.2).kindAt a = s.kindAt a := rfl
@[simp] theorem State.kindAt_loadVector (s : State) (v : Word) (a : Word) : (s.loadVector v).kindAt a = s.kindAt a := rfl

/-- Outside device windows the byte at an address is memory's. -/
theorem State.byteAt_of_ne_device {s : State} {a : Word} (h : s.kindAt a ≠ .device) :
    s.byteAt a = Memory.read s.mem a.toNat := by
  unfold State.byteAt
  cases hk : s.kindAt a <;> simp_all

/-- A RAM byte after a store: the byte stored, or what was there before (20_memory.md R72). -/
theorem State.byteAt_store8 (s : State) (a b : Word) (v : Byte) (h : s.kindAt b = .ram) :
    (s.store8 a v).byteAt b = if b = a then v else s.byteAt b := by
  have hk : (s.store8 a v).kindAt b = .ram := h
  have hd : ∀ {t : State}, t.kindAt b = .ram → t.byteAt b = Memory.read t.mem b.toNat := fun ht =>
    State.byteAt_of_ne_device (by rw [ht]; decide)
  rw [hd hk, hd h, State.store8_mem, State.read_memAfterStore]
  by_cases hab : b = a
  · subst hab; simp [h]
  · have hn : b.toNat ≠ a.toNat := fun e => hab (BitVec.eq_of_toNat_eq e)
    simp [hab, hn]

/-! Memory stays canonical. -/

theorem State.store8_wf {s : State} (a : Word) (v : Byte) (h : s.mem.wf = true) : (s.store8 a v).mem.wf = true :=
  State.memAfterStore_wf a v h

theorem State.store16_wf {s : State} (a v : Word) (h : s.mem.wf = true) : (s.store16 a v).mem.wf = true :=
  State.store8_wf _ _ (State.store8_wf _ _ h)

theorem State.push8_wf {s : State} (v : Byte) (h : s.mem.wf = true) : (s.push8 v).mem.wf = true :=
  State.store8_wf (s := { s with sp := s.sp - 1 }) _ _ h

theorem State.push16_wf {s : State} (v : Word) (h : s.mem.wf = true) : (s.push16 v).mem.wf = true :=
  State.store16_wf (s := { s with sp := s.sp - 2 }) _ _ h

theorem State.enterFrame_wf {s : State} (vector : Word) (h : s.mem.wf = true) :
    (s.enterFrame vector).mem.wf = true := by
  rw [State.enterFrame, State.loadVector_mem, State.setI_mem]
  exact State.push8_wf _ (State.push8_wf _ (State.push8_wf _ (State.push16_wf _ (State.push16_wf _ h))))

theorem State.powerOn_wf {s : State} (h : s.mem.wf = true) : s.powerOn.mem.wf = true := by
  unfold State.powerOn State.initRegisters
  split
  · split <;> exact h
  · exact h

theorem State.hostAction_wf {s : State} (act : HostAction) (h : s.mem.wf = true) :
    (s.hostAction act).mem.wf = true := by
  cases act <;> try exact h
  · exact State.powerOn_wf h
  · simp only [State.hostAction]
    split <;> exact h

theorem storeTableWord_wf {m : Memory} (pc : Word) (b0 b1 b2 : Byte) (h : m.wf = true) :
    (Memory.write (Memory.write (Memory.write m pc.toNat b0) (pc + 1).toNat b1) (pc + 2).toNat b2).wf = true :=
  Memory.wf_write _ (Memory.wf_write _ (Memory.wf_write _ h pc.isLt) (pc + 1).isLt) (pc + 2).isLt

/-! The shapes. -/

/-- What an accumulator operation answers. -/
theorem accOperate_eq (x : Acc) (mask : Cc) (f : Byte → Byte → Alu 8) (src : Src8) (s : State) :
    accOperate x mask f src s =
      .next (((s.readSrc8 src).2.setAcc x (f (s.acc x) (s.readSrc8 src).1).r).setFlags mask
        (f (s.acc x) (s.readSrc8 src).1).new) := rfl

/-- What a compare answers. -/
theorem accCompare_eq (x : Acc) (mask : Cc) (f : Byte → Byte → Alu 8) (src : Src8) (s : State) :
    accCompare x mask f src s =
      .next ((s.readSrc8 src).2.setFlags mask (f (s.acc x) (s.readSrc8 src).1).new) := rfl

/-- What a read-modify-write of a memory byte answers. -/
theorem memOperate_eq (mask : Cc) (f : Byte → Alu 8) (ref : Ref) (s : State) :
    memOperate mask f ref s =
      .next ((((s.load8 (s.refAddr ref)).2.store8 (s.refAddr ref) (f (s.byteAt (s.refAddr ref))).r)).setFlags mask
        (f (s.byteAt (s.refAddr ref))).new) := rfl

/-- What a call answers: the return address pushed, PC at the target. -/
theorem callTo_eq (target : Word) (s : State) :
    callTo target s =
      .next { (s.store8 (s.sp - 1) (hiByte s.pc)).store8 s.sp (loByte s.pc) with sp := s.sp - 2, pc := target } := by
  rw [callTo, State.push16_eq]

end Sys2Proof.Machine
end

