-- ==== Sys2Proof/Laws/Entry.lean ====
section
/-!
SUPPORT. What the entry into an interrupt or SWI, a vector load and the return from interrupt do, each said once.
-/

namespace Sys2Proof.Machine

/-- An entry is the seven stores of the frame, I set, and then the vector load (60_exceptions.md R415). -/
theorem State.enterFrame_split (s : State) (v : Word) :
    ∃ u : State, s.enterFrame v = u.loadVector v ∧
      u = { s with
            sp := s.sp - 7
            cc := setCc s.cc maskI maskI
            mem := u.mem
            bus := s.bus ++ s.frame.map fun p => .write p.1 p.2
            deviceLog := u.deviceLog } ∧
      s.stored u s.frame := by
  have e1 : s.sp - 2 - 1 = s.sp - 3 := by bv_omega
  have e2 : s.sp - 2 - 2 = s.sp - 4 := by bv_omega
  have e3 : s.sp - 4 - 1 = s.sp - 5 := by bv_omega
  have e4 : s.sp - 5 - 1 = s.sp - 6 := by bv_omega
  have e5 : s.sp - 6 - 1 = s.sp - 7 := by bv_omega
  refine ⟨_, rfl, ?_, ?_⟩
  · simp only [State.push16_eq, State.push8_eq, State.setI, State.setFlags, State.store8, State.logAccess, e1, e2,
      e3, e4, e5, State.frame, List.append_assoc, State.ccByte]
    rfl
  · intro b
    simp only [State.afterStores, State.frame, State.read_memAfterStore, e1, e2, e3, e4, State.ccByte,
      State.setI_mem, State.push8_mem, State.push16_mem, State.store8_mem, State.push8_sp, State.push16_sp,
      State.kindAt_push8, State.kindAt_push16, State.kindAt_store8, List.foldl, List.cons_append, List.nil_append]

/-- A vector load reads the two bytes of the vector and puts their word into PC. -/
theorem State.loadVector_vectored (s : State) (v : Word) : s.vectored (s.loadVector v) [] v := by
  refine ⟨_, _, ?_, rfl, fun h => ?_, fun h => ?_⟩
  · simp [List.append_assoc]
  · exact State.byteAt_of_ne_device h
  · exact State.byteAt_of_ne_device (s := s.logAccess v _) h

/-- Everything an entry does (R415, R416). -/
theorem State.enterFrame_entered (s : State) (v : Word) : s.entered (s.enterFrame v) v := by
  obtain ⟨u, hu, hr, hs⟩ := s.enterFrame_split v
  obtain ⟨hi, lo, h1, h2, h3, h4⟩ := u.loadVector_vectored v
  have hcfg : u.config = s.config := by rw [hr]
  refine ⟨?_, ?_, ?_, hi, lo, ?_, ?_, ?_, ?_⟩
  · rw [hu]
    simp only [State.loadVector, State.load16, State.load8, State.logAccess]
    rw [hr]
  · rw [hu, State.loadVector_cc, hr]
    simp [ccIs]
  · exact fun b => hu ▸ hs b
  · rw [hu, h1, hr, List.append_nil]
  · rw [hu, h2]
  · intro h
    rw [hu]
    exact h3 (by rwa [State.kindAt_congr hcfg])
  · intro h
    rw [hu]
    exact h4 (by rwa [State.kindAt_congr hcfg])

/-- The registers a return from interrupt leaves: bytes and words pulled one after another (R419). -/
theorem State.returnFromInterrupt_registers (s : State) :
    s.returnFromInterrupt.cc = ccOfByte s.pull8.1 ∧ s.returnFromInterrupt.b = s.pull8.2.pull8.1 ∧
      s.returnFromInterrupt.a = s.pull8.2.pull8.2.pull8.1 ∧
      s.returnFromInterrupt.ix = s.pull8.2.pull8.2.pull8.2.pull16.1 ∧
      s.returnFromInterrupt.pc = s.pull8.2.pull8.2.pull8.2.pull16.2.pull16.1 ∧
      s.returnFromInterrupt.bus = s.pull8.2.pull8.2.pull8.2.pull16.2.pull16.2.bus :=
  ⟨rfl, rfl, rfl, rfl, rfl, rfl⟩

end Sys2Proof.Machine
end

