-- ==== Sys2Proof/Laws/PerInstr.lean ====
section
/-!
SUPPORT. The statements made for each instruction as syntax: an instruction is encoded in as many bytes as its opcode says
(30_encoding.md R100, R101, R122). One lemma for each constructor.
-/

namespace Sys2Proof.Laws.EncodingLength

/-- A well-formed instruction's encoding has the length its first byte, the opcode, says. -/
def Statement (i : Instr) : Prop :=
  i.wellFormed = true → (encode i).length = opcodeLength ((encode i).headD 0)

/-- Byte operands: immediate, direct and indexed forms of two bytes, the extended form of three, at any opcode that has them so. -/
theorem src8_length (op : Byte) (src : Src8) (h0 : opcodeLength op = 2) (h1 : opcodeLength (op + 0x10) = 2)
    (h2 : opcodeLength (op + 0x20) = 2) (h3 : opcodeLength (op + 0x30) = 3) :
    (encodeSrc8 op src).length = opcodeLength ((encodeSrc8 op src).headD 0) := by
  cases src
  · exact h0.symm
  · exact h1.symm
  · exact h2.symm
  · exact h3.symm

/-- Word operands: the immediate form has three bytes. -/
theorem src16_length (op : Byte) (src : Src16) (h0 : opcodeLength op = 3) (h1 : opcodeLength (op + 0x10) = 2)
    (h2 : opcodeLength (op + 0x20) = 2) (h3 : opcodeLength (op + 0x30) = 3) :
    (encodeSrc16 op src).length = opcodeLength ((encodeSrc16 op src).headD 0) := by
  cases src
  · exact h0.symm
  · exact h1.symm
  · exact h2.symm
  · exact h3.symm

/-- Stores: direct, indexed, extended. -/
theorem dst_length (op : Byte) (dst : Dst) (h0 : opcodeLength op = 2) (h1 : opcodeLength (op + 0x10) = 2)
    (h2 : opcodeLength (op + 0x20) = 3) :
    (encodeDst op dst).length = opcodeLength ((encodeDst op dst).headD 0) := by
  cases dst
  · exact h0.symm
  · exact h1.symm
  · exact h2.symm

/-- Indexed and extended operands. -/
theorem ref_length (op : Byte) (ref : Ref) (h0 : opcodeLength op = 2) (h1 : opcodeLength (op + 0x10) = 3) :
    (encodeRef op ref).length = opcodeLength ((encodeRef op ref).headD 0) := by
  cases ref
  · exact h0.symm
  · exact h1.symm

/-- Relative branches. -/
theorem rel_length (op off : Byte) (h : opcodeLength op = 2) :
    ([op, off] : List Byte).length = opcodeLength (([op, off] : List Byte).headD 0) := h.symm

theorem illegal (op : Byte) : Statement (.illegal op) := by
  unfold Statement Instr.wellFormed
  revert op; decide

theorem ldaa (src : Src8) : Statement (.ldaa src) := fun _ => src8_length _ src rfl rfl rfl rfl
theorem ldab (src : Src8) : Statement (.ldab src) := fun _ => src8_length _ src rfl rfl rfl rfl
theorem staa (dst : Dst) : Statement (.staa dst) := fun _ => dst_length _ dst rfl rfl rfl
theorem stab (dst : Dst) : Statement (.stab dst) := fun _ => dst_length _ dst rfl rfl rfl
theorem ldx (src : Src16) : Statement (.ldx src) := fun _ => src16_length _ src rfl rfl rfl rfl
theorem stx (dst : Dst) : Statement (.stx dst) := fun _ => dst_length _ dst rfl rfl rfl
theorem lds (src : Src16) : Statement (.lds src) := fun _ => src16_length _ src rfl rfl rfl rfl
theorem sts (dst : Dst) : Statement (.sts dst) := fun _ => dst_length _ dst rfl rfl rfl
theorem tab : Statement .tab := fun _ => rfl
theorem tba : Statement .tba := fun _ => rfl
theorem tap : Statement .tap := fun _ => rfl
theorem tpa : Statement .tpa := fun _ => rfl
theorem tsx : Statement .tsx := fun _ => rfl
theorem txs : Statement .txs := fun _ => rfl
theorem clra : Statement .clra := fun _ => rfl
theorem clrb : Statement .clrb := fun _ => rfl
theorem clr (ref : Ref) : Statement (.clr ref) := fun _ => ref_length _ ref rfl rfl
theorem adda (src : Src8) : Statement (.adda src) := fun _ => src8_length _ src rfl rfl rfl rfl
theorem addb (src : Src8) : Statement (.addb src) := fun _ => src8_length _ src rfl rfl rfl rfl
theorem adca (src : Src8) : Statement (.adca src) := fun _ => src8_length _ src rfl rfl rfl rfl
theorem adcb (src : Src8) : Statement (.adcb src) := fun _ => src8_length _ src rfl rfl rfl rfl
theorem aba : Statement .aba := fun _ => rfl
theorem suba (src : Src8) : Statement (.suba src) := fun _ => src8_length _ src rfl rfl rfl rfl
theorem subb (src : Src8) : Statement (.subb src) := fun _ => src8_length _ src rfl rfl rfl rfl
theorem sbca (src : Src8) : Statement (.sbca src) := fun _ => src8_length _ src rfl rfl rfl rfl
theorem sbcb (src : Src8) : Statement (.sbcb src) := fun _ => src8_length _ src rfl rfl rfl rfl
theorem sba : Statement .sba := fun _ => rfl
theorem cmpa (src : Src8) : Statement (.cmpa src) := fun _ => src8_length _ src rfl rfl rfl rfl
theorem cmpb (src : Src8) : Statement (.cmpb src) := fun _ => src8_length _ src rfl rfl rfl rfl
theorem cba : Statement .cba := fun _ => rfl
theorem nega : Statement .nega := fun _ => rfl
theorem negb : Statement .negb := fun _ => rfl
theorem neg (ref : Ref) : Statement (.neg ref) := fun _ => ref_length _ ref rfl rfl
theorem inca : Statement .inca := fun _ => rfl
theorem incb : Statement .incb := fun _ => rfl
theorem inc (ref : Ref) : Statement (.inc ref) := fun _ => ref_length _ ref rfl rfl
theorem deca : Statement .deca := fun _ => rfl
theorem decb : Statement .decb := fun _ => rfl
theorem dec (ref : Ref) : Statement (.dec ref) := fun _ => ref_length _ ref rfl rfl
theorem tsta : Statement .tsta := fun _ => rfl
theorem tstb : Statement .tstb := fun _ => rfl
theorem tst (ref : Ref) : Statement (.tst ref) := fun _ => ref_length _ ref rfl rfl
theorem daa : Statement .daa := fun _ => rfl
theorem cpx (src : Src16) : Statement (.cpx src) := fun _ => src16_length _ src rfl rfl rfl rfl
theorem inx : Statement .inx := fun _ => rfl
theorem dex : Statement .dex := fun _ => rfl
theorem ins : Statement .ins := fun _ => rfl
theorem des : Statement .des := fun _ => rfl
theorem anda (src : Src8) : Statement (.anda src) := fun _ => src8_length _ src rfl rfl rfl rfl
theorem andb (src : Src8) : Statement (.andb src) := fun _ => src8_length _ src rfl rfl rfl rfl
theorem bita (src : Src8) : Statement (.bita src) := fun _ => src8_length _ src rfl rfl rfl rfl
theorem bitb (src : Src8) : Statement (.bitb src) := fun _ => src8_length _ src rfl rfl rfl rfl
theorem oraa (src : Src8) : Statement (.oraa src) := fun _ => src8_length _ src rfl rfl rfl rfl
theorem orab (src : Src8) : Statement (.orab src) := fun _ => src8_length _ src rfl rfl rfl rfl
theorem eora (src : Src8) : Statement (.eora src) := fun _ => src8_length _ src rfl rfl rfl rfl
theorem eorb (src : Src8) : Statement (.eorb src) := fun _ => src8_length _ src rfl rfl rfl rfl
theorem coma : Statement .coma := fun _ => rfl
theorem comb : Statement .comb := fun _ => rfl
theorem com (ref : Ref) : Statement (.com ref) := fun _ => ref_length _ ref rfl rfl
theorem asla : Statement .asla := fun _ => rfl
theorem aslb : Statement .aslb := fun _ => rfl
theorem asl (ref : Ref) : Statement (.asl ref) := fun _ => ref_length _ ref rfl rfl
theorem asra : Statement .asra := fun _ => rfl
theorem asrb : Statement .asrb := fun _ => rfl
theorem asr (ref : Ref) : Statement (.asr ref) := fun _ => ref_length _ ref rfl rfl
theorem lsra : Statement .lsra := fun _ => rfl
theorem lsrb : Statement .lsrb := fun _ => rfl
theorem lsr (ref : Ref) : Statement (.lsr ref) := fun _ => ref_length _ ref rfl rfl
theorem rola : Statement .rola := fun _ => rfl
theorem rolb : Statement .rolb := fun _ => rfl
theorem rol (ref : Ref) : Statement (.rol ref) := fun _ => ref_length _ ref rfl rfl
theorem rora : Statement .rora := fun _ => rfl
theorem rorb : Statement .rorb := fun _ => rfl
theorem ror (ref : Ref) : Statement (.ror ref) := fun _ => ref_length _ ref rfl rfl
theorem bra (off : Byte) : Statement (.bra off) := fun _ => rel_length 0x20 off rfl
theorem bhi (off : Byte) : Statement (.bhi off) := fun _ => rel_length 0x22 off rfl
theorem bls (off : Byte) : Statement (.bls off) := fun _ => rel_length 0x23 off rfl
theorem bcc (off : Byte) : Statement (.bcc off) := fun _ => rel_length 0x24 off rfl
theorem bcs (off : Byte) : Statement (.bcs off) := fun _ => rel_length 0x25 off rfl
theorem bne (off : Byte) : Statement (.bne off) := fun _ => rel_length 0x26 off rfl
theorem beq (off : Byte) : Statement (.beq off) := fun _ => rel_length 0x27 off rfl
theorem bvc (off : Byte) : Statement (.bvc off) := fun _ => rel_length 0x28 off rfl
theorem bvs (off : Byte) : Statement (.bvs off) := fun _ => rel_length 0x29 off rfl
theorem bpl (off : Byte) : Statement (.bpl off) := fun _ => rel_length 0x2a off rfl
theorem bmi (off : Byte) : Statement (.bmi off) := fun _ => rel_length 0x2b off rfl
theorem bge (off : Byte) : Statement (.bge off) := fun _ => rel_length 0x2c off rfl
theorem blt (off : Byte) : Statement (.blt off) := fun _ => rel_length 0x2d off rfl
theorem bgt (off : Byte) : Statement (.bgt off) := fun _ => rel_length 0x2e off rfl
theorem ble (off : Byte) : Statement (.ble off) := fun _ => rel_length 0x2f off rfl
theorem bsr (off : Byte) : Statement (.bsr off) := fun _ => rel_length 0x8d off rfl
theorem jmp (ref : Ref) : Statement (.jmp ref) := fun _ => ref_length _ ref rfl rfl
theorem jsr (ref : Ref) : Statement (.jsr ref) := fun _ => ref_length _ ref rfl rfl
theorem rts : Statement .rts := fun _ => rfl
theorem psha : Statement .psha := fun _ => rfl
theorem pshb : Statement .pshb := fun _ => rfl
theorem pula : Statement .pula := fun _ => rfl
theorem pulb : Statement .pulb := fun _ => rfl
theorem clc : Statement .clc := fun _ => rfl
theorem sec : Statement .sec := fun _ => rfl
theorem clv : Statement .clv := fun _ => rfl
theorem sev : Statement .sev := fun _ => rfl
theorem cli : Statement .cli := fun _ => rfl
theorem sei : Statement .sei := fun _ => rfl
theorem nop : Statement .nop := fun _ => rfl
theorem swi : Statement .swi := fun _ => rfl
theorem rti : Statement .rti := fun _ => rfl
theorem wai : Statement .wai := fun _ => rfl

end Sys2Proof.Laws.EncodingLength
end

