-- ==== Sys2Proof/Tests/Slice0.lean ====
section
/-!
SUPPORT. Tests of the model. Their expected results are those of the spec's Encoding and Example lines, of its opcode table and of the
vectors of 95_test_vectors.md; each test names its source. At the end, for each statement of Certificates/Slice0/Obligations.lean
that has hypotheses, theorems that name a state or a term meeting them.
-/

namespace Sys2Proof.Tests

open Sys2Proof.Machine

/-! Helpers. -/

/-- The next state, if there is one. -/
def nextState : Answer → Option State
  | .next t => some t
  | .fault _ => none
  | .refused _ => none

/-- The state after one step. -/
def afterStep (s : State) : Option State := nextState (step s)

/-- The state after a step, or the state itself where there is none. -/
def after (s : State) : State := (afterStep s).getD s

theorem next_after (s : State) (h : (afterStep s).isSome = true) : step s = .next (after s) := by
  unfold after afterStep at *
  cases hs : step s <;> simp_all [nextState]

/-- One byte of memory changed. -/
def poke (s : State) (a : Word) (v : Byte) : State := { s with mem := Memory.write s.mem a.toNat v }

/-- Bytes put from an address on. -/
def place (s : State) : Word → List Byte → State
  | _, [] => s
  | a, v :: l => place (poke s a v) (a + 1) l

/-- The starting state of 95_test_vectors.md section 0: the bytes at 0x0100, PC 0x0100, Running, every register zero. -/
def at0100 (bytes : List Byte) : State := place { State.reset with pc := 0x0100, cc := 0, bus := [] } 0x0100 bytes

/-- The vectors of 95_test_vectors.md section 3 and SP 0x01FF, with the bytes at 0x0100. -/
def scene (bytes : List Byte) : State :=
  place { at0100 bytes with sp := 0x01FF } 0xFFF8 [0xE0, 0x00, 0xE1, 0x00, 0xE2, 0x00, 0xC0, 0x00]

/-- The stores of the step, in order. -/
def stores (s : State) : List (Word × Byte) :=
  s.bus.filterMap fun x =>
    match x with
    | .read _ _ => none
    | .write a v => some (a, v)

/-! WellFormed. -/

/-- The operand types keep out every ill-formed operand; the check that is left refuses a sentinel with a defined opcode (30_encoding.md
R121: 0x01 is NOP, 0x20 BRA, 0xFF STX). -/
theorem test_wellformed_refuses :
    (Instr.illegal 0x01).wellFormed = false ∧ (Instr.illegal 0x20).wellFormed = false ∧
      (Instr.illegal 0xFF).wellFormed = false := by decide

theorem test_wellformed_accepts :
    (Instr.illegal 0x00).wellFormed = true ∧ (Instr.illegal 0xFD).wellFormed = true ∧
      (Instr.ldaa (.imm 0xFF)).wellFormed = true := by decide

/-! Decoding. The words are written out from the Encoding lines of the rules: R201 and so on name the rule beside its words. -/

/-- Encoding lines of 41_load_store_transfer.md R201 to R207. -/
theorem test_decode_loads_stores_transfers_1 :
    ∀ p ∈ ([
      ([0x86, 0x80], .ldaa (.imm 0x80)), ([0x96, 0xFE], .ldaa (.dir 0xFE)), ([0xA6, 0xFF], .ldaa (.idx 0xFF)), ([0xB6,
      0x12, 0x34], .ldaa (.ext 0x1234)), ([0xC6, 0x80], .ldab (.imm 0x80)), ([0xD6, 0xFE], .ldab (.dir 0xFE)), ([0xE6,
      0xFF], .ldab (.idx 0xFF)), ([0xF6, 0x12, 0x34], .ldab (.ext 0x1234)), ([0x97, 0xFE], .staa (.dir 0xFE)), ([0xA7,
      0xFF], .staa (.idx 0xFF)), ([0xB7, 0x12, 0x34], .staa (.ext 0x1234)), ([0xD7, 0xFE], .stab (.dir 0xFE)), ([0xE7,
      0xFF], .stab (.idx 0xFF)), ([0xF7, 0x12, 0x34], .stab (.ext 0x1234)), ([0xCE, 0x12, 0x34], .ldx (.imm 0x1234)),
      ([0xDE, 0xFE], .ldx (.dir 0xFE)), ([0xEE, 0xFF], .ldx (.idx 0xFF)), ([0xFE, 0x12, 0x34], .ldx (.ext 0x1234)),
      ([0xDF, 0xFE], .stx (.dir 0xFE)), ([0xEF, 0xFF], .stx (.idx 0xFF)), ([0xFF, 0x12, 0x34], .stx (.ext 0x1234)),
      ([0x8E, 0x12, 0x34], .lds (.imm 0x1234)), ([0x9E, 0xFE], .lds (.dir 0xFE)), ([0xAE, 0xFF], .lds (.idx 0xFF)),
      ([0xBE, 0x12, 0x34], .lds (.ext 0x1234))] : List (List Byte × Instr)),
      decode p.1 = .ok p.2 [] := by decide

/-- Encoding lines of 41_load_store_transfer.md R208 to R217. -/
theorem test_decode_loads_stores_transfers_2 :
    ∀ p ∈ ([
      ([0x9F, 0xFE], .sts (.dir 0xFE)), ([0xAF, 0xFF], .sts (.idx 0xFF)), ([0xBF, 0x12, 0x34], .sts (.ext 0x1234)),
      ([0x16], .tab), ([0x17], .tba), ([0x06], .tap), ([0x07], .tpa), ([0x30], .tsx), ([0x35], .txs), ([0x4F], .clra),
      ([0x5F], .clrb), ([0x6F, 0xFF], .clr (.idx 0xFF)), ([0x7F, 0x12, 0x34], .clr (.ext 0x1234))] : List (List Byte × Instr)),
      decode p.1 = .ok p.2 [] := by decide

/-- Encoding lines of 42_arithmetic.md R241 to R247. -/
theorem test_decode_arithmetic_1 :
    ∀ p ∈ ([
      ([0x8B, 0x80], .adda (.imm 0x80)), ([0x9B, 0xFE], .adda (.dir 0xFE)), ([0xAB, 0xFF], .adda (.idx 0xFF)), ([0xBB,
      0x12, 0x34], .adda (.ext 0x1234)), ([0xCB, 0x80], .addb (.imm 0x80)), ([0xDB, 0xFE], .addb (.dir 0xFE)), ([0xEB,
      0xFF], .addb (.idx 0xFF)), ([0xFB, 0x12, 0x34], .addb (.ext 0x1234)), ([0x89, 0x80], .adca (.imm 0x80)), ([0x99,
      0xFE], .adca (.dir 0xFE)), ([0xA9, 0xFF], .adca (.idx 0xFF)), ([0xB9, 0x12, 0x34], .adca (.ext 0x1234)), ([0xC9,
      0x80], .adcb (.imm 0x80)), ([0xD9, 0xFE], .adcb (.dir 0xFE)), ([0xE9, 0xFF], .adcb (.idx 0xFF)), ([0xF9, 0x12,
      0x34], .adcb (.ext 0x1234)), ([0x1B], .aba), ([0x80, 0x80], .suba (.imm 0x80)), ([0x90, 0xFE], .suba (.dir 0xFE)),
      ([0xA0, 0xFF], .suba (.idx 0xFF)), ([0xB0, 0x12, 0x34], .suba (.ext 0x1234)), ([0xC0, 0x80], .subb (.imm 0x80)),
      ([0xD0, 0xFE], .subb (.dir 0xFE)), ([0xE0, 0xFF], .subb (.idx 0xFF)), ([0xF0, 0x12, 0x34], .subb (.ext 0x1234))] : List (List Byte × Instr)),
      decode p.1 = .ok p.2 [] := by decide

/-- Encoding lines of 42_arithmetic.md R248 to R258. -/
theorem test_decode_arithmetic_2 :
    ∀ p ∈ ([
      ([0x82, 0x80], .sbca (.imm 0x80)), ([0x92, 0xFE], .sbca (.dir 0xFE)), ([0xA2, 0xFF], .sbca (.idx 0xFF)), ([0xB2,
      0x12, 0x34], .sbca (.ext 0x1234)), ([0xC2, 0x80], .sbcb (.imm 0x80)), ([0xD2, 0xFE], .sbcb (.dir 0xFE)), ([0xE2,
      0xFF], .sbcb (.idx 0xFF)), ([0xF2, 0x12, 0x34], .sbcb (.ext 0x1234)), ([0x10], .sba), ([0x81, 0x80], .cmpa (.imm
      0x80)), ([0x91, 0xFE], .cmpa (.dir 0xFE)), ([0xA1, 0xFF], .cmpa (.idx 0xFF)), ([0xB1, 0x12, 0x34], .cmpa (.ext
      0x1234)), ([0xC1, 0x80], .cmpb (.imm 0x80)), ([0xD1, 0xFE], .cmpb (.dir 0xFE)), ([0xE1, 0xFF], .cmpb (.idx 0xFF)),
      ([0xF1, 0x12, 0x34], .cmpb (.ext 0x1234)), ([0x11], .cba), ([0x40], .nega), ([0x50], .negb), ([0x60, 0xFF], .neg
      (.idx 0xFF)), ([0x70, 0x12, 0x34], .neg (.ext 0x1234)), ([0x4C], .inca), ([0x5C], .incb)] : List (List Byte × Instr)),
      decode p.1 = .ok p.2 [] := by decide

/-- Encoding lines of 42_arithmetic.md R259 to R271. -/
theorem test_decode_arithmetic_3 :
    ∀ p ∈ ([
      ([0x6C, 0xFF], .inc (.idx 0xFF)), ([0x7C, 0x12, 0x34], .inc (.ext 0x1234)), ([0x4A], .deca), ([0x5A], .decb),
      ([0x6A, 0xFF], .dec (.idx 0xFF)), ([0x7A, 0x12, 0x34], .dec (.ext 0x1234)), ([0x4D], .tsta), ([0x5D], .tstb),
      ([0x6D, 0xFF], .tst (.idx 0xFF)), ([0x7D, 0x12, 0x34], .tst (.ext 0x1234)), ([0x19], .daa), ([0x8C, 0x12, 0x34],
      .cpx (.imm 0x1234)), ([0x9C, 0xFE], .cpx (.dir 0xFE)), ([0xAC, 0xFF], .cpx (.idx 0xFF)), ([0xBC, 0x12, 0x34], .cpx
      (.ext 0x1234)), ([0x08], .inx), ([0x09], .dex), ([0x31], .ins), ([0x34], .des)] : List (List Byte × Instr)),
      decode p.1 = .ok p.2 [] := by decide

/-- Encoding lines of 43_logic_shift.md R301 to R306. -/
theorem test_decode_logic_shifts_1 :
    ∀ p ∈ ([
      ([0x84, 0x80], .anda (.imm 0x80)), ([0x94, 0xFE], .anda (.dir 0xFE)), ([0xA4, 0xFF], .anda (.idx 0xFF)), ([0xB4,
      0x12, 0x34], .anda (.ext 0x1234)), ([0xC4, 0x80], .andb (.imm 0x80)), ([0xD4, 0xFE], .andb (.dir 0xFE)), ([0xE4,
      0xFF], .andb (.idx 0xFF)), ([0xF4, 0x12, 0x34], .andb (.ext 0x1234)), ([0x85, 0x80], .bita (.imm 0x80)), ([0x95,
      0xFE], .bita (.dir 0xFE)), ([0xA5, 0xFF], .bita (.idx 0xFF)), ([0xB5, 0x12, 0x34], .bita (.ext 0x1234)), ([0xC5,
      0x80], .bitb (.imm 0x80)), ([0xD5, 0xFE], .bitb (.dir 0xFE)), ([0xE5, 0xFF], .bitb (.idx 0xFF)), ([0xF5, 0x12,
      0x34], .bitb (.ext 0x1234)), ([0x8A, 0x80], .oraa (.imm 0x80)), ([0x9A, 0xFE], .oraa (.dir 0xFE)), ([0xAA, 0xFF],
      .oraa (.idx 0xFF)), ([0xBA, 0x12, 0x34], .oraa (.ext 0x1234)), ([0xCA, 0x80], .orab (.imm 0x80)), ([0xDA, 0xFE],
      .orab (.dir 0xFE)), ([0xEA, 0xFF], .orab (.idx 0xFF)), ([0xFA, 0x12, 0x34], .orab (.ext 0x1234))] : List (List Byte × Instr)),
      decode p.1 = .ok p.2 [] := by decide

/-- Encoding lines of 43_logic_shift.md R307 to R320. -/
theorem test_decode_logic_shifts_2 :
    ∀ p ∈ ([
      ([0x88, 0x80], .eora (.imm 0x80)), ([0x98, 0xFE], .eora (.dir 0xFE)), ([0xA8, 0xFF], .eora (.idx 0xFF)), ([0xB8,
      0x12, 0x34], .eora (.ext 0x1234)), ([0xC8, 0x80], .eorb (.imm 0x80)), ([0xD8, 0xFE], .eorb (.dir 0xFE)), ([0xE8,
      0xFF], .eorb (.idx 0xFF)), ([0xF8, 0x12, 0x34], .eorb (.ext 0x1234)), ([0x43], .coma), ([0x53], .comb), ([0x63,
      0xFF], .com (.idx 0xFF)), ([0x73, 0x12, 0x34], .com (.ext 0x1234)), ([0x48], .asla), ([0x58], .aslb), ([0x68,
      0xFF], .asl (.idx 0xFF)), ([0x78, 0x12, 0x34], .asl (.ext 0x1234)), ([0x47], .asra), ([0x57], .asrb), ([0x67,
      0xFF], .asr (.idx 0xFF)), ([0x77, 0x12, 0x34], .asr (.ext 0x1234)), ([0x44], .lsra), ([0x54], .lsrb), ([0x64,
      0xFF], .lsr (.idx 0xFF)), ([0x74, 0x12, 0x34], .lsr (.ext 0x1234))] : List (List Byte × Instr)),
      decode p.1 = .ok p.2 [] := by decide

/-- Encoding lines of 43_logic_shift.md R321 to R326. -/
theorem test_decode_logic_shifts_3 :
    ∀ p ∈ ([
      ([0x49], .rola), ([0x59], .rolb), ([0x69, 0xFF], .rol (.idx 0xFF)), ([0x79, 0x12, 0x34], .rol (.ext 0x1234)),
      ([0x46], .rora), ([0x56], .rorb), ([0x66, 0xFF], .ror (.idx 0xFF)), ([0x76, 0x12, 0x34], .ror (.ext 0x1234))] : List (List Byte × Instr)),
      decode p.1 = .ok p.2 [] := by decide

/-- Encoding lines of 44_control.md R351 to R369. -/
theorem test_decode_control_1 :
    ∀ p ∈ ([
      ([0x20, 0xFC], .bra 0xFC), ([0x22, 0xFC], .bhi 0xFC), ([0x23, 0xFC], .bls 0xFC), ([0x24, 0xFC], .bcc 0xFC),
      ([0x25, 0xFC], .bcs 0xFC), ([0x26, 0xFC], .bne 0xFC), ([0x27, 0xFC], .beq 0xFC), ([0x28, 0xFC], .bvc 0xFC),
      ([0x29, 0xFC], .bvs 0xFC), ([0x2A, 0xFC], .bpl 0xFC), ([0x2B, 0xFC], .bmi 0xFC), ([0x2C, 0xFC], .bge 0xFC),
      ([0x2D, 0xFC], .blt 0xFC), ([0x2E, 0xFC], .bgt 0xFC), ([0x2F, 0xFC], .ble 0xFC), ([0x8D, 0xFC], .bsr 0xFC),
      ([0x6E, 0xFF], .jmp (.idx 0xFF)), ([0x7E, 0x12, 0x34], .jmp (.ext 0x1234)), ([0xAD, 0xFF], .jsr (.idx 0xFF)),
      ([0xBD, 0x12, 0x34], .jsr (.ext 0x1234)), ([0x39], .rts)] : List (List Byte × Instr)),
      decode p.1 = .ok p.2 [] := by decide

/-- Encoding lines of 45_stack_cc_system.md R381 to R394. -/
theorem test_decode_stack_cc_system_1 :
    ∀ p ∈ ([
      ([0x36], .psha), ([0x37], .pshb), ([0x32], .pula), ([0x33], .pulb), ([0x0C], .clc), ([0x0D], .sec), ([0x0A],
      .clv), ([0x0B], .sev), ([0x0E], .cli), ([0x0F], .sei), ([0x01], .nop), ([0x3F], .swi), ([0x3B], .rti), ([0x3E],
      .wai)] : List (List Byte × Instr)),
      decode p.1 = .ok p.2 [] := by decide

/-- The illegal opcodes of 30_encoding.md R121 decode to the sentinel, the byte after them unread (R118). -/
theorem test_decode_illegal : ∀ op ∈ illegalOpcodes, decode [op, 0x05] = .ok (.illegal op) [0x05] := by decide

/-- Missing operand bytes and no byte at all are refused by name; a byte after the instruction is left alone. -/
theorem test_decode_rejects :
    decode [] = .rejected .noOpcode ∧ decode [0x86] = .rejected (.missingOperand 0x86) ∧
      decode [0xBD, 0x20] = .rejected (.missingOperand 0xBD) ∧ decode [0x4F, 0x01] = .ok .clra [0x01] := by decide

/-- The bits of a table word: the first byte in bits 7 to 0 (JSR $2000 is BD 20 00), missing operand bits zero. -/
theorem test_table_word :
    decodeTableWord 24 0x0020BD = some (.jsr (.ext 0x2000)) ∧ decodeTableWord 8 0xBD = some (.jsr (.ext 0x0000)) ∧
      decodeTableWord 8 0x4F = some .clra ∧ decodeTableWord 16 0x8086 = some (.ldaa (.imm 0x80)) ∧
      decodeTableWord 8 0x21 = some (.illegal 0x21) := by decide

/-- A table word runs as the first instruction after reset: LDAA #$80 (R201), STX $40 (R206), illegal 0x21 (R118). -/
theorem test_fetch_word :
    (afterStep (State.reset.withFetchWord 16 0x8086)).map (fun t => (t.a, t.pc)) = some (0x80, 0x0002) ∧
      (afterStep (State.reset.withFetchWord 16 0x40DF)).map stores = some [(0x0040, 0x00), (0x0041, 0x00)] ∧
      (afterStep (State.reset.withFetchWord 8 0x21)).map (fun t => (t.pc, t.reports)) =
        some (0x0001, [⟨0x0000, 0x21⟩]) := by decide

/-! One step of each instruction: the vectors of 95_test_vectors.md sections 2.1 to 2.5 (the rule beside each). -/

/-- R201: LDAA #$80: N set, V cleared, C kept; LDAA $FF,X with IX=0xFF80 (unsigned offset, wraps). -/
theorem test_ldaa :
    (afterStep { at0100 [0x86, 0x80] with cc := 0x03 }).map (fun t => (t.a, t.pc, t.cc)) = some (0x80, 0x0102, 0x09) ∧
    (afterStep { poke (at0100 [0xA6, 0xFF]) 0x007F 0x42 with ix := 0xFF80 }).map (fun t => (t.a, t.pc, t.cc)) = some (0x42, 0x0102,
        0x00) := by decide

/-- R202: LDAB $10 (direct); LDAB $1234 (extended). -/
theorem test_ldab :
    (afterStep (poke (at0100 [0xD6, 0x10]) 0x0010 0xFE)).map (fun t => (t.b, t.pc, t.cc)) = some (0xFE, 0x0102, 0x08) ∧
    (afterStep { poke (at0100 [0xF6, 0x12, 0x34]) 0x1234 0x01 with cc := 0x04 }).map (fun t => (t.b, t.pc, t.cc)) = some (0x01, 0x0103,
        0x00) := by decide

/-- R203: STAA $1234: store, flags from A. -/
theorem test_staa :
    (afterStep { at0100 [0xB7, 0x12, 0x34] with cc := 0x0A }).map (fun t => (t.pc, t.cc, stores t)) = some (0x0103, 0x04, [(0x1234,
        0x00)]) := by decide

/-- R204: STAB 0,X. -/
theorem test_stab :
    (afterStep { at0100 [0xE7, 0x00] with b := 0x99, ix := 0x0800 }).map (fun t => (t.pc, t.cc, stores t)) = some (0x0102, 0x08,
        [(0x0800, 0x99)]) := by decide

/-- R205: LDX #$8000: N; LDX $FFFF (extended): second byte wraps to 0x0000. -/
theorem test_ldx :
    (afterStep (at0100 [0xCE, 0x80, 0x00])).map (fun t => (t.ix, t.pc, t.cc)) = some (0x8000, 0x0103, 0x08) ∧
    (afterStep (poke (poke (at0100 [0xFE, 0xFF, 0xFF]) 0x0000 0xCD) 0xFFFF 0xAB)).map (fun t => (t.ix, t.pc, t.cc)) = some (0xABCD,
        0x0103, 0x08) := by decide

/-- R206: STX $40 (direct): high byte first. -/
theorem test_stx :
    (afterStep { at0100 [0xDF, 0x40] with ix := 0x1234 }).map (fun t => (t.pc, t.cc, stores t)) = some (0x0102, 0x00, [(0x0040, 0x12),
        (0x0041, 0x34)]) := by decide

/-- R207: LDS #$01FF. -/
theorem test_lds :
    (afterStep { at0100 [0x8E, 0x01, 0xFF] with cc := 0x0E }).map (fun t => (t.sp, t.pc, t.cc)) = some (0x01FF, 0x0103, 0x00) := by decide

/-- R208: STS 2,X. -/
theorem test_sts :
    (afterStep { at0100 [0xAF, 0x02] with sp := 0x01F0, ix := 0x0900 }).map (fun t => (t.pc, t.cc, stores t)) = some (0x0102, 0x00,
        [(0x0902, 0x01), (0x0903, 0xF0)]) := by decide

/-- R209: TAB A=0x80. -/
theorem test_tab :
    (afterStep { at0100 [0x16] with a := 0x80, b := 0x11, cc := 0x02 }).map (fun t => (t.b, t.pc, t.cc)) = some (0x80, 0x0101, 0x08) := by decide

/-- R210: TBA B=0x00. -/
theorem test_tba :
    (afterStep { at0100 [0x17] with a := 0x33 }).map (fun t => (t.a, t.pc, t.cc)) = some (0x00, 0x0101, 0x04) := by decide

/-- R211: TAP A=0xFF: bits 7:6 discarded; TAP A=0x00: clears I. -/
theorem test_tap :
    (afterStep { at0100 [0x06] with a := 0xFF }).map (fun t => (t.pc, t.cc)) = some (0x0101, 0x3F) ∧
    (afterStep { at0100 [0x06] with cc := 0x3F }).map (fun t => (t.pc, t.cc)) = some (0x0101, 0x00) := by decide

/-- R212: TPA CC=0x15: bits 7:6 read as 1. -/
theorem test_tpa :
    (afterStep { at0100 [0x07] with cc := 0x15 }).map (fun t => (t.a, t.pc, t.cc)) = some (0xD5, 0x0101, 0x15) := by decide

/-- R213: TSX SP=0x01F0; TSX SP=0xFFFF wraps. -/
theorem test_tsx :
    (afterStep { at0100 [0x30] with sp := 0x01F0, cc := 0x0F }).map (fun t => (t.ix, t.pc, t.cc)) = some (0x01F1, 0x0101, 0x0F) ∧
    (afterStep { at0100 [0x30] with sp := 0xFFFF }).map (fun t => (t.ix, t.pc, t.cc)) = some (0x0000, 0x0101, 0x00) := by decide

/-- R214: TXS IX=0x0000 wraps. -/
theorem test_txs :
    (afterStep (at0100 [0x35])).map (fun t => (t.sp, t.pc, t.cc)) = some (0xFFFF, 0x0101, 0x00) := by decide

/-- R215: CLRA. -/
theorem test_clra :
    (afterStep { at0100 [0x4F] with a := 0x7E, cc := 0x0B }).map (fun t => (t.a, t.pc, t.cc)) = some (0x00, 0x0101, 0x04) := by decide

/-- R216: CLRB. -/
theorem test_clrb :
    (afterStep { at0100 [0x5F] with b := 0x01, cc := 0x21 }).map (fun t => (t.b, t.pc, t.cc)) = some (0x00, 0x0101, 0x24) := by decide

/-- R217: CLR 3,X. -/
theorem test_clr :
    (afterStep { poke (at0100 [0x6F, 0x03]) 0x0903 0x77 with ix := 0x0900, cc := 0x0F }).map (fun t => (t.pc, t.cc, stores t)) = some
        (0x0102, 0x04, [(0x0903, 0x00)]) := by decide

/-- R241: ADDA #$01, A=0x7F: signed overflow, half carry; ADDA #$80, A=0x80: Z V C. -/
theorem test_adda :
    (afterStep { at0100 [0x8B, 0x01] with a := 0x7F }).map (fun t => (t.a, t.pc, t.cc)) = some (0x80, 0x0102, 0x2A) ∧
    (afterStep { at0100 [0x8B, 0x80] with a := 0x80 }).map (fun t => (t.a, t.pc, t.cc)) = some (0x00, 0x0102, 0x07) := by decide

/-- R242: ADDB $20. -/
theorem test_addb :
    (afterStep { poke (at0100 [0xDB, 0x20]) 0x0020 0xF0 with b := 0x20 }).map (fun t => (t.b, t.pc, t.cc)) = some (0x10, 0x0102, 0x01) := by decide

/-- R243: ADCA #$00, A=0xFF, C=1: carry-in wraps. -/
theorem test_adca :
    (afterStep { at0100 [0x89, 0x00] with a := 0xFF, cc := 0x01 }).map (fun t => (t.a, t.pc, t.cc)) = some (0x00, 0x0102, 0x25) := by decide

/-- R244: ADCB #$7F, B=0x00, C=1. -/
theorem test_adcb :
    (afterStep { at0100 [0xC9, 0x7F] with cc := 0x01 }).map (fun t => (t.b, t.pc, t.cc)) = some (0x80, 0x0102, 0x2A) := by decide

/-- R245: ABA 0x48+0x37 (before DAA). -/
theorem test_aba :
    (afterStep { at0100 [0x1B] with a := 0x48, b := 0x37 }).map (fun t => (t.a, t.pc, t.cc)) = some (0x7F, 0x0101, 0x00) := by decide

/-- R246: SUBA #$01, A=0x00: borrow; SUBA #$01, A=0x80: overflow. -/
theorem test_suba :
    (afterStep (at0100 [0x80, 0x01])).map (fun t => (t.a, t.pc, t.cc)) = some (0xFF, 0x0102, 0x09) ∧
    (afterStep { at0100 [0x80, 0x01] with a := 0x80 }).map (fun t => (t.a, t.pc, t.cc)) = some (0x7F, 0x0102, 0x02) := by decide

/-- R247: SUBB 0,X equal values. -/
theorem test_subb :
    (afterStep { poke (at0100 [0xE0, 0x00]) 0x0900 0x42 with b := 0x42, ix := 0x0900 }).map (fun t => (t.b, t.pc, t.cc)) = some (0x00,
        0x0102, 0x04) := by decide

/-- R248: SBCA #$00, A=0x00, C=1. -/
theorem test_sbca :
    (afterStep { at0100 [0x82, 0x00] with cc := 0x01 }).map (fun t => (t.a, t.pc, t.cc)) = some (0xFF, 0x0102, 0x09) := by decide

/-- R249: SBCB #$FF, B=0xFF, C=1. -/
theorem test_sbcb :
    (afterStep { at0100 [0xC2, 0xFF] with b := 0xFF, cc := 0x01 }).map (fun t => (t.b, t.pc, t.cc)) = some (0xFF, 0x0102, 0x09) := by decide

/-- R250: SBA with A=B ("SUB A,A"). -/
theorem test_sba :
    (afterStep { at0100 [0x10] with a := 0x55, b := 0x55, cc := 0x0B }).map (fun t => (t.a, t.pc, t.cc)) = some (0x00, 0x0101, 0x04) := by decide

/-- R251: CMPA #$10, A=0x10: A unchanged; CMPA #$01, A=0x00. -/
theorem test_cmpa :
    (afterStep { at0100 [0x81, 0x10] with a := 0x10 }).map (fun t => (t.pc, t.cc)) = some (0x0102, 0x04) ∧
    (afterStep (at0100 [0x81, 0x01])).map (fun t => (t.pc, t.cc)) = some (0x0102, 0x09) := by decide

/-- R252: CMPB #$80, B=0x7F: overflow. -/
theorem test_cmpb :
    (afterStep { at0100 [0xC1, 0x80] with b := 0x7F }).map (fun t => (t.pc, t.cc)) = some (0x0102, 0x0B) := by decide

/-- R253: CBA A=0x01 B=0x02. -/
theorem test_cba :
    (afterStep { at0100 [0x11] with a := 0x01, b := 0x02 }).map (fun t => (t.pc, t.cc)) = some (0x0101, 0x09) := by decide

/-- R254: NEGA A=0x80; NEGA A=0x00: C clear. -/
theorem test_nega :
    (afterStep { at0100 [0x40] with a := 0x80 }).map (fun t => (t.a, t.pc, t.cc)) = some (0x80, 0x0101, 0x0B) ∧
    (afterStep { at0100 [0x40] with cc := 0x01 }).map (fun t => (t.a, t.pc, t.cc)) = some (0x00, 0x0101, 0x04) := by decide

/-- R255: NEGB B=0x01. -/
theorem test_negb :
    (afterStep { at0100 [0x50] with b := 0x01 }).map (fun t => (t.b, t.pc, t.cc)) = some (0xFF, 0x0101, 0x09) := by decide

/-- R256: NEG $0900. -/
theorem test_neg :
    (afterStep (poke (at0100 [0x70, 0x09, 0x00]) 0x0900 0x7F)).map (fun t => (t.pc, t.cc, stores t)) = some (0x0103, 0x09, [(0x0900,
        0x81)]) := by decide

/-- R257: INCA A=0x7F; INCA A=0xFF: C kept. -/
theorem test_inca :
    (afterStep { at0100 [0x4C] with a := 0x7F }).map (fun t => (t.a, t.pc, t.cc)) = some (0x80, 0x0101, 0x0A) ∧
    (afterStep { at0100 [0x4C] with a := 0xFF, cc := 0x01 }).map (fun t => (t.a, t.pc, t.cc)) = some (0x00, 0x0101, 0x05) := by decide

/-- R258: INCB B=0x00, C=1 kept. -/
theorem test_incb :
    (afterStep { at0100 [0x5C] with cc := 0x01 }).map (fun t => (t.b, t.pc, t.cc)) = some (0x01, 0x0101, 0x01) := by decide

/-- R259: INC 0,X. -/
theorem test_inc :
    (afterStep { poke (at0100 [0x6C, 0x00]) 0x0900 0xFF with ix := 0x0900 }).map (fun t => (t.pc, t.cc, stores t)) = some (0x0102, 0x04,
        [(0x0900, 0x00)]) := by decide

/-- R260: DECA A=0x80; DECA A=0x00. -/
theorem test_deca :
    (afterStep { at0100 [0x4A] with a := 0x80 }).map (fun t => (t.a, t.pc, t.cc)) = some (0x7F, 0x0101, 0x02) ∧
    (afterStep { at0100 [0x4A] with cc := 0x01 }).map (fun t => (t.a, t.pc, t.cc)) = some (0xFF, 0x0101, 0x09) := by decide

/-- R261: DECB B=0x01. -/
theorem test_decb :
    (afterStep { at0100 [0x5A] with b := 0x01 }).map (fun t => (t.b, t.pc, t.cc)) = some (0x00, 0x0101, 0x04) := by decide

/-- R262: DEC $0900. -/
theorem test_dec :
    (afterStep (at0100 [0x7A, 0x09, 0x00])).map (fun t => (t.pc, t.cc, stores t)) = some (0x0103, 0x08, [(0x0900, 0xFF)]) := by decide

/-- R263: TSTA A=0x80, V and C cleared. -/
theorem test_tsta :
    (afterStep { at0100 [0x4D] with a := 0x80, cc := 0x03 }).map (fun t => (t.pc, t.cc)) = some (0x0101, 0x08) := by decide

/-- R264: TSTB B=0x00. -/
theorem test_tstb :
    (afterStep { at0100 [0x5D] with cc := 0x2B }).map (fun t => (t.pc, t.cc)) = some (0x0101, 0x24) := by decide

/-- R265: TST $0900: no write. -/
theorem test_tst :
    (afterStep (poke (at0100 [0x7D, 0x09, 0x00]) 0x0900 0x01)).map (fun t => (t.pc, t.cc)) = some (0x0103, 0x00) := by decide

/-- R266: DAA A=0x7F (0x48+0x37), H=0 C=0: the source example; DAA A=0x9A. -/
theorem test_daa :
    (afterStep { at0100 [0x19] with a := 0x7F }).map (fun t => (t.a, t.pc, t.cc)) = some (0x85, 0x0101, 0x08) ∧
    (afterStep { at0100 [0x19] with a := 0x9A }).map (fun t => (t.a, t.pc, t.cc)) = some (0x00, 0x0101, 0x07) := by decide

/-- R267: CPX #$0001, IX=0x0080 (low-byte overflow: V=1); CPX #$0001, IX=0x8000 (high bytes overflow, low bytes do not). -/
theorem test_cpx :
    (afterStep { at0100 [0x8C, 0x00, 0x01] with ix := 0x0080 }).map (fun t => (t.pc, t.cc)) = some (0x0103, 0x02) ∧
    (afterStep { at0100 [0x8C, 0x00, 0x01] with ix := 0x8000 }).map (fun t => (t.pc, t.cc)) = some (0x0103, 0x00) := by decide

/-- R268: INX IX=0xFFFF. -/
theorem test_inx :
    (afterStep { at0100 [0x08] with ix := 0xFFFF, cc := 0x0B }).map (fun t => (t.ix, t.pc, t.cc)) = some (0x0000, 0x0101, 0x0F) := by decide

/-- R269: DEX IX=0x0001; DEX IX=0x0000: only Z written. -/
theorem test_dex :
    (afterStep { at0100 [0x09] with ix := 0x0001 }).map (fun t => (t.ix, t.pc, t.cc)) = some (0x0000, 0x0101, 0x04) ∧
    (afterStep { at0100 [0x09] with cc := 0x04 }).map (fun t => (t.ix, t.pc, t.cc)) = some (0xFFFF, 0x0101, 0x00) := by decide

/-- R270: INS SP=0xFFFF: no flags. -/
theorem test_ins :
    (afterStep { at0100 [0x31] with sp := 0xFFFF }).map (fun t => (t.sp, t.pc, t.cc)) = some (0x0000, 0x0101, 0x00) := by decide

/-- R271: DES SP=0x0000. -/
theorem test_des :
    (afterStep { at0100 [0x34] with cc := 0x04 }).map (fun t => (t.sp, t.pc, t.cc)) = some (0xFFFF, 0x0101, 0x04) := by decide

/-- R301: ANDA #$0F, A=0xF0. -/
theorem test_anda :
    (afterStep { at0100 [0x84, 0x0F] with a := 0xF0, cc := 0x03 }).map (fun t => (t.a, t.pc, t.cc)) = some (0x00, 0x0102, 0x05) := by decide

/-- R302: ANDB #$80, B=0xFF. -/
theorem test_andb :
    (afterStep { at0100 [0xC4, 0x80] with b := 0xFF }).map (fun t => (t.b, t.pc, t.cc)) = some (0x80, 0x0102, 0x08) := by decide

/-- R303: BITA #$80, A=0x80: A unchanged. -/
theorem test_bita :
    (afterStep { at0100 [0x85, 0x80] with a := 0x80 }).map (fun t => (t.pc, t.cc)) = some (0x0102, 0x08) := by decide

/-- R304: BITB #$01, B=0xFE. -/
theorem test_bitb :
    (afterStep { at0100 [0xC5, 0x01] with b := 0xFE, cc := 0x02 }).map (fun t => (t.pc, t.cc)) = some (0x0102, 0x04) := by decide

/-- R305: ORAA #$80, A=0x01. -/
theorem test_oraa :
    (afterStep { at0100 [0x8A, 0x80] with a := 0x01, cc := 0x03 }).map (fun t => (t.a, t.pc, t.cc)) = some (0x81, 0x0102, 0x09) := by decide

/-- R306: ORAB $20, B=0x00. -/
theorem test_orab :
    (afterStep (at0100 [0xDA, 0x20])).map (fun t => (t.b, t.pc, t.cc)) = some (0x00, 0x0102, 0x04) := by decide

/-- R307: EORA #$FF, A=0xFF. -/
theorem test_eora :
    (afterStep { at0100 [0x88, 0xFF] with a := 0xFF, cc := 0x02 }).map (fun t => (t.a, t.pc, t.cc)) = some (0x00, 0x0102, 0x04) := by decide

/-- R308: EORB #$0F, B=0xF0. -/
theorem test_eorb :
    (afterStep { at0100 [0xC8, 0x0F] with b := 0xF0 }).map (fun t => (t.b, t.pc, t.cc)) = some (0xFF, 0x0102, 0x08) := by decide

/-- R309: COMA A=0x00. -/
theorem test_coma :
    (afterStep (at0100 [0x43])).map (fun t => (t.a, t.pc, t.cc)) = some (0xFF, 0x0101, 0x09) := by decide

/-- R310: COMB B=0xFF. -/
theorem test_comb :
    (afterStep { at0100 [0x53] with b := 0xFF, cc := 0x02 }).map (fun t => (t.b, t.pc, t.cc)) = some (0x00, 0x0101, 0x05) := by decide

/-- R311: COM 0,X. -/
theorem test_com :
    (afterStep { poke (at0100 [0x63, 0x00]) 0x0900 0x55 with ix := 0x0900 }).map (fun t => (t.pc, t.cc, stores t)) = some (0x0102, 0x09,
        [(0x0900, 0xAA)]) := by decide

/-- R312: ASLA A=0x80: C, V=N^C=1; ASLA A=0x40: N, V=1. -/
theorem test_asla :
    (afterStep { at0100 [0x48] with a := 0x80 }).map (fun t => (t.a, t.pc, t.cc)) = some (0x00, 0x0101, 0x07) ∧
    (afterStep { at0100 [0x48] with a := 0x40 }).map (fun t => (t.a, t.pc, t.cc)) = some (0x80, 0x0101, 0x0A) := by decide

/-- R313: ASLB B=0xC0: N C, V=0. -/
theorem test_aslb :
    (afterStep { at0100 [0x58] with b := 0xC0 }).map (fun t => (t.b, t.pc, t.cc)) = some (0x80, 0x0101, 0x09) := by decide

/-- R314: ASL $0900. -/
theorem test_asl :
    (afterStep { poke (at0100 [0x78, 0x09, 0x00]) 0x0900 0x01 with cc := 0x01 }).map (fun t => (t.pc, t.cc, stores t)) = some (0x0103,
        0x00, [(0x0900, 0x02)]) := by decide

/-- R315: ASRA A=0x81: sign kept. -/
theorem test_asra :
    (afterStep { at0100 [0x47] with a := 0x81 }).map (fun t => (t.a, t.pc, t.cc)) = some (0xC0, 0x0101, 0x09) := by decide

/-- R316: ASRB B=0x01. -/
theorem test_asrb :
    (afterStep { at0100 [0x57] with b := 0x01 }).map (fun t => (t.b, t.pc, t.cc)) = some (0x00, 0x0101, 0x07) := by decide

/-- R317: ASR 0,X. -/
theorem test_asr :
    (afterStep { poke (at0100 [0x67, 0x00]) 0x0900 0x80 with ix := 0x0900 }).map (fun t => (t.pc, t.cc, stores t)) = some (0x0102, 0x0A,
        [(0x0900, 0xC0)]) := by decide

/-- R318: LSRA A=0x01: V = C. -/
theorem test_lsra :
    (afterStep { at0100 [0x44] with a := 0x01 }).map (fun t => (t.a, t.pc, t.cc)) = some (0x00, 0x0101, 0x07) := by decide

/-- R319: LSRB B=0x80. -/
theorem test_lsrb :
    (afterStep { at0100 [0x54] with b := 0x80, cc := 0x08 }).map (fun t => (t.b, t.pc, t.cc)) = some (0x40, 0x0101, 0x00) := by decide

/-- R320: LSR $0900. -/
theorem test_lsr :
    (afterStep (poke (at0100 [0x74, 0x09, 0x00]) 0x0900 0xFF)).map (fun t => (t.pc, t.cc, stores t)) = some (0x0103, 0x03, [(0x0900,
        0x7F)]) := by decide

/-- R321: ROLA A=0x80, C=0; ROLA A=0x00, C=1. -/
theorem test_rola :
    (afterStep { at0100 [0x49] with a := 0x80 }).map (fun t => (t.a, t.pc, t.cc)) = some (0x00, 0x0101, 0x07) ∧
    (afterStep { at0100 [0x49] with cc := 0x01 }).map (fun t => (t.a, t.pc, t.cc)) = some (0x01, 0x0101, 0x00) := by decide

/-- R322: ROLB B=0x7F, C=1. -/
theorem test_rolb :
    (afterStep { at0100 [0x59] with b := 0x7F, cc := 0x01 }).map (fun t => (t.b, t.pc, t.cc)) = some (0xFF, 0x0101, 0x0A) := by decide

/-- R323: ROL 0,X. -/
theorem test_rol :
    (afterStep { poke (at0100 [0x69, 0x00]) 0x0900 0xAA with ix := 0x0900 }).map (fun t => (t.pc, t.cc, stores t)) = some (0x0102, 0x03,
        [(0x0900, 0x54)]) := by decide

/-- R324: RORA A=0x01, C=1: the source example. -/
theorem test_rora :
    (afterStep { at0100 [0x46] with a := 0x01, cc := 0x01 }).map (fun t => (t.a, t.pc, t.cc)) = some (0x80, 0x0101, 0x09) := by decide

/-- R325: RORB B=0x00, C=0. -/
theorem test_rorb :
    (afterStep (at0100 [0x56])).map (fun t => (t.pc, t.cc)) = some (0x0101, 0x04) := by decide

/-- R326: ROR $0900, C=1. -/
theorem test_ror :
    (afterStep { poke (at0100 [0x76, 0x09, 0x00]) 0x0900 0x02 with cc := 0x01 }).map (fun t => (t.pc, t.cc, stores t)) = some (0x0103,
        0x0A, [(0x0900, 0x81)]) := by decide

/-- R351: BRA +2; BRA -2 (to itself). -/
theorem test_bra :
    (afterStep (at0100 [0x20, 0x02])).map (fun t => (t.pc, t.cc)) = some (0x0104, 0x00) ∧
    (afterStep (at0100 [0x20, 0xFE])).map (fun t => (t.pc, t.cc)) = some (0x0100, 0x00) := by decide

/-- R352: BHI taken (C=0,Z=0); BHI not taken (C=1). -/
theorem test_bhi :
    (afterStep (at0100 [0x22, 0x10])).map (fun t => (t.pc, t.cc)) = some (0x0112, 0x00) ∧
    (afterStep { at0100 [0x22, 0x10] with cc := 0x01 }).map (fun t => (t.pc, t.cc)) = some (0x0102, 0x01) := by decide

/-- R353: BLS taken (Z=1). -/
theorem test_bls :
    (afterStep { at0100 [0x23, 0x10] with cc := 0x04 }).map (fun t => (t.pc, t.cc)) = some (0x0112, 0x04) := by decide

/-- R354: BCC taken. -/
theorem test_bcc :
    (afterStep (at0100 [0x24, 0x10])).map (fun t => (t.pc, t.cc)) = some (0x0112, 0x00) := by decide

/-- R355: BCS not taken. -/
theorem test_bcs :
    (afterStep (at0100 [0x25, 0x10])).map (fun t => (t.pc, t.cc)) = some (0x0102, 0x00) := by decide

/-- R356: BNE taken backward. -/
theorem test_bne :
    (afterStep (at0100 [0x26, 0xF0])).map (fun t => (t.pc, t.cc)) = some (0x00F2, 0x00) := by decide

/-- R357: BEQ taken (Z=1); BEQ not taken (Z=0). -/
theorem test_beq :
    (afterStep { at0100 [0x27, 0x05] with cc := 0x04 }).map (fun t => (t.pc, t.cc)) = some (0x0107, 0x04) ∧
    (afterStep (at0100 [0x27, 0x05])).map (fun t => (t.pc, t.cc)) = some (0x0102, 0x00) := by decide

/-- R358: BVC not taken (V=1). -/
theorem test_bvc :
    (afterStep { at0100 [0x28, 0x05] with cc := 0x02 }).map (fun t => (t.pc, t.cc)) = some (0x0102, 0x02) := by decide

/-- R359: BVS taken. -/
theorem test_bvs :
    (afterStep { at0100 [0x29, 0x05] with cc := 0x02 }).map (fun t => (t.pc, t.cc)) = some (0x0107, 0x02) := by decide

/-- R360: BPL taken. -/
theorem test_bpl :
    (afterStep (at0100 [0x2A, 0x05])).map (fun t => (t.pc, t.cc)) = some (0x0107, 0x00) := by decide

/-- R361: BMI taken. -/
theorem test_bmi :
    (afterStep { at0100 [0x2B, 0x05] with cc := 0x08 }).map (fun t => (t.pc, t.cc)) = some (0x0107, 0x08) := by decide

/-- R362: BGE taken (N=1,V=1). -/
theorem test_bge :
    (afterStep { at0100 [0x2C, 0x05] with cc := 0x0A }).map (fun t => (t.pc, t.cc)) = some (0x0107, 0x0A) := by decide

/-- R363: BLT taken (N=1,V=0). -/
theorem test_blt :
    (afterStep { at0100 [0x2D, 0x05] with cc := 0x08 }).map (fun t => (t.pc, t.cc)) = some (0x0107, 0x08) := by decide

/-- R364: BGT not taken (Z=1); BGT taken (N=0,V=0,Z=0). -/
theorem test_bgt :
    (afterStep { at0100 [0x2E, 0x05] with cc := 0x04 }).map (fun t => (t.pc, t.cc)) = some (0x0102, 0x04) ∧
    (afterStep (at0100 [0x2E, 0x05])).map (fun t => (t.pc, t.cc)) = some (0x0107, 0x00) := by decide

/-- R365: BLE taken (N=0,V=1). -/
theorem test_ble :
    (afterStep { at0100 [0x2F, 0x05] with cc := 0x02 }).map (fun t => (t.pc, t.cc)) = some (0x0107, 0x02) := by decide

/-- R366: BSR +0x10. -/
theorem test_bsr :
    (afterStep { at0100 [0x8D, 0x10] with sp := 0x01FF }).map (fun t => (t.sp, t.pc, t.cc, stores t)) = some (0x01FD, 0x0112, 0x00,
        [(0x01FE, 0x01), (0x01FF, 0x02)]) := by decide

/-- R366: BSR -4. -/
theorem test_bsr_again :
    (afterStep { at0100 [0x8D, 0xFC] with sp := 0x01FF }).map (fun t => (t.sp, t.pc, t.cc, stores t)) = some (0x01FD, 0x00FE, 0x00,
        [(0x01FE, 0x01), (0x01FF, 0x02)]) := by decide

/-- R367: JMP $2000; JMP 5,X. -/
theorem test_jmp :
    (afterStep (at0100 [0x7E, 0x20, 0x00])).map (fun t => (t.pc, t.cc)) = some (0x2000, 0x00) ∧
    (afterStep { at0100 [0x6E, 0x05] with ix := 0x3000 }).map (fun t => (t.pc, t.cc)) = some (0x3005, 0x00) := by decide

/-- R368: JSR $2000. -/
theorem test_jsr :
    (afterStep { at0100 [0xBD, 0x20, 0x00] with sp := 0x01FF }).map (fun t => (t.sp, t.pc, t.cc, stores t)) = some (0x01FD, 0x2000,
        0x00, [(0x01FE, 0x01), (0x01FF, 0x03)]) := by decide

/-- R368: JSR 0,X. -/
theorem test_jsr_again :
    (afterStep { at0100 [0xAD, 0x00] with ix := 0x4000, sp := 0x0001 }).map (fun t => (t.sp, t.pc, t.cc, stores t)) = some (0xFFFF,
        0x4000, 0x00, [(0x0000, 0x01), (0x0001, 0x02)]) := by decide

/-- R369: RTS. -/
theorem test_rts :
    (afterStep { poke (poke (at0100 [0x39]) 0x01FE 0x12) 0x01FF 0x34 with sp := 0x01FD }).map (fun t => (t.sp, t.pc, t.cc)) = some
        (0x01FF, 0x1234, 0x00) := by decide

/-- R381: PSHA. -/
theorem test_psha :
    (afterStep { at0100 [0x36] with a := 0xAB, sp := 0x01FF }).map (fun t => (t.sp, t.pc, t.cc, stores t)) = some (0x01FE, 0x0101, 0x00,
        [(0x01FF, 0xAB)]) := by decide

/-- R382: PSHB at SP=0x0000. -/
theorem test_pshb :
    (afterStep { at0100 [0x37] with b := 0xCD }).map (fun t => (t.sp, t.pc, t.cc, stores t)) = some (0xFFFF, 0x0101, 0x00, [(0x0000,
        0xCD)]) := by decide

/-- R383: PULA: no flags. -/
theorem test_pula :
    (afterStep { at0100 [0x32] with sp := 0x01FE, cc := 0x08 }).map (fun t => (t.a, t.sp, t.pc, t.cc)) = some (0x00, 0x01FF, 0x0101,
        0x08) := by decide

/-- R384: PULB at SP=0xFFFF. -/
theorem test_pulb :
    (afterStep { poke (at0100 [0x33]) 0x0000 0x77 with sp := 0xFFFF }).map (fun t => (t.b, t.sp, t.pc, t.cc)) = some (0x77, 0x0000,
        0x0101, 0x00) := by decide

/-- R385: CLC. -/
theorem test_clc :
    (afterStep { at0100 [0x0C] with cc := 0x3F }).map (fun t => (t.pc, t.cc)) = some (0x0101, 0x3E) := by decide

/-- R386: SEC. -/
theorem test_sec :
    (afterStep (at0100 [0x0D])).map (fun t => (t.pc, t.cc)) = some (0x0101, 0x01) := by decide

/-- R387: CLV. -/
theorem test_clv :
    (afterStep { at0100 [0x0A] with cc := 0x3F }).map (fun t => (t.pc, t.cc)) = some (0x0101, 0x3D) := by decide

/-- R388: SEV. -/
theorem test_sev :
    (afterStep (at0100 [0x0B])).map (fun t => (t.pc, t.cc)) = some (0x0101, 0x02) := by decide

/-- R389: CLI. -/
theorem test_cli :
    (afterStep { at0100 [0x0E] with cc := 0x3F }).map (fun t => (t.pc, t.cc)) = some (0x0101, 0x2F) := by decide

/-- R390: SEI. -/
theorem test_sei :
    (afterStep (at0100 [0x0F])).map (fun t => (t.pc, t.cc)) = some (0x0101, 0x10) := by decide

/-- R391: NOP. -/
theorem test_nop :
    (afterStep { at0100 [0x01] with cc := 0x2A }).map (fun t => (t.pc, t.cc)) = some (0x0101, 0x2A) := by decide

/-- R392: SWI (vector 0xFFFA = F000). -/
theorem test_swi :
    (afterStep { poke (at0100 [0x3F]) 0xFFFA 0xF0 with a := 0x11, b := 0x22, ix := 0x3344, sp := 0x01FF, cc := 0x01 }).map (fun t =>
        (t.sp, t.pc, t.cc, stores t)) = some (0x01F8, 0xF000, 0x11, [(0x01FE, 0x01), (0x01FF, 0x01), (0x01FC, 0x33), (0x01FD, 0x44),
        (0x01FB, 0x11), (0x01FA, 0x22), (0x01F9, 0xC1)]) := by decide

/-- R393: RTI; RTI pulls 0xFF: bits 7:6 dropped. -/
theorem test_rti :
    (afterStep { place (at0100 [0x3B]) 0x01F9 [0xC1, 0x22, 0x11, 0x33, 0x44, 0x01, 0x01] with sp := 0x01F8 }).map (fun t => (t.a, t.b,
        t.ix, t.sp, t.pc, t.cc)) = some (0x11, 0x22, 0x3344, 0x01FF, 0x0101, 0x01) ∧
    (afterStep { place (at0100 [0x3B]) 0x01F9 [0xFF, 0x00, 0x00, 0x00, 0x00, 0x20, 0x00] with sp := 0x01F8 }).map (fun t => (t.sp, t.pc,
        t.cc)) = some (0x01FF, 0x2000, 0x3F) := by decide

/-- R118: Illegal opcode 0x00; Illegal opcode 0x21 (no offset skipped). -/
theorem test_illegal :
    (afterStep { at0100 [0x00] with cc := 0x15 }).map (fun t => (t.pc, t.cc, t.reports)) = some (0x0101, 0x15, [⟨0x0100, 0x00⟩]) ∧
    (afterStep (at0100 [0x21, 0x05])).map (fun t => (t.pc, t.cc, t.reports)) = some (0x0101, 0x00, [⟨0x0100, 0x21⟩]) := by decide

/-- R394: WAI pushes nothing and waits (95_test_vectors.md S5, step 1). -/
theorem test_wai :
    (afterStep (scene [0x3E])).map (fun t => (t.run, t.pc, t.sp, t.bus)) =
      some (.waiting, 0x0101, 0x01FF, [.read 0x0100 0x3E]) := by decide

/-! The other parameter values, the corners and the bus sequences (95_test_vectors.md sections 2.5, 2.6 and 4). -/

/-- DAA_V_NO_CORR = preserve: no upper correction keeps V. -/
theorem test_daa_preserve :
    (afterStep { at0100 [0x19] with a := 0x99, cc := 0x02, config := { defaultConfig with daaVNoCorr := .preserve } }).map
      (fun t => (t.a, t.cc)) = some (0x99, 0x0A) := by decide

/-- CPX_V_RULE = high_byte_overflow, and the low-byte row R267 beside it. -/
theorem test_cpx_rules :
    (afterStep { at0100 [0x8C, 0x00, 0x01] with ix := 0x8000, config := { defaultConfig with cpxVRule := .highByteOverflow } }).map
        (fun t => t.cc) = some 0x02 ∧
      (afterStep { at0100 [0x8C, 0x00, 0x01] with ix := 0x8000 }).map (fun t => t.cc) = some 0x00 := by decide

/-- TSX_TXS_ADJUST = 0. -/
theorem test_tsx_unadjusted :
    (afterStep { at0100 [0x30] with sp := 0x01F0, config := { defaultConfig with tsxTxsAdjust := 0 } }).map (fun t => t.ix) =
      some 0x01F0 := by decide

theorem test_txs_unadjusted :
    (afterStep { at0100 [0x35] with sp := 0x0001, config := { defaultConfig with tsxTxsAdjust := 0 } }).map (fun t => t.sp) =
      some 0x0000 := by decide

/-- CC_HIGH_BITS = 0b00. -/
theorem test_tpa_low :
    (afterStep { at0100 [0x07] with cc := 0x15, config := { defaultConfig with ccHighBits := 0b00 } }).map (fun t => t.a) =
      some 0x15 := by decide

/-- Branch wrap: `20 80` at 0x0000 goes to 0xFF82. Fetch wrap: LDAA #$5A at 0xFFFF. -/
theorem test_wraps :
    (afterStep { place (at0100 []) 0x0000 [0x20, 0x80] with pc := 0x0000 }).map (fun t => t.pc) = some 0xFF82 ∧
      (afterStep { place (at0100 []) 0xFFFF [0x86, 0x5A] with pc := 0xFFFF }).map (fun t => (t.a, t.pc)) =
        some (0x5A, 0x0001) := by decide

/-- `INC 0,X`: two fetches, a read, a write. -/
theorem test_bus_inc :
    (afterStep { poke (at0100 [0x6C, 0x00]) 0x0900 0x41 with ix := 0x0900 }).map (fun t => t.bus) =
      some [.read 0x0100 0x6C, .read 0x0101 0x00, .read 0x0900 0x41, .write 0x0900 0x42] := by decide

/-- `CLR $0900`: no read of 0x0900. -/
theorem test_bus_clr :
    (afterStep (at0100 [0x7F, 0x09, 0x00])).map (fun t => t.bus) =
      some [.read 0x0100 0x7F, .read 0x0101 0x09, .read 0x0102 0x00, .write 0x0900 0x00] := by decide

/-- The IRQ entry of S2, step 2: seven writes and two vector reads, no opcode fetch. -/
theorem test_bus_irq :
    (afterStep { scene [0x01] with pc := 0x0101, irqLine := true }).map (fun t => t.bus) =
      some [.write 0x01FE 0x01, .write 0x01FF 0x01, .write 0x01FC 0x00, .write 0x01FD 0x00, .write 0x01FB 0x00,
        .write 0x01FA 0x00, .write 0x01F9 0xC0, .read 0xFFF8 0xE0, .read 0xFFF9 0x00] := by decide

/-- S1: NMI before IRQ, and the latch is consumed. -/
theorem test_nmi_first :
    (afterStep { scene [0x01] with irqLine := true, nmiLatch := true }).map (fun t => (t.pc, t.cc, t.nmiLatch)) =
      some (0xE200, 0x10, false) := by decide

/-- S3: the reset action reads 0xFFFE and 0xFFFF and nothing else. -/
theorem test_reset_action :
    (afterStep { scene [0x01] with run := .halted, resetPending := true }).map (fun t => (t.pc, t.cc, t.bus, t.run)) =
      some (0xC000, 0x10, [.read 0xFFFE 0xC0, .read 0xFFFF 0x00], .running) := by decide

/-- S8: the first powerOn. -/
theorem test_power_on :
    (afterStep { scene [] with run := .off, poweredOnce := false, moves := [.host .powerOn] }).map
      (fun t => (t.pc, flagI t.cc, t.run)) = some (0xC000, true, .running) := by decide

/-- haltAck is 1 in Halted and Off, 0 in Running and Waiting (10_state.md R46). -/
theorem test_halt_ack :
    ({ scene [] with run := .halted }).haltAck = true ∧ ({ scene [] with run := .off }).haltAck = true ∧
      (scene []).haltAck = false ∧ ({ scene [] with run := .waiting }).haltAck = false := by decide

/-- The packed descriptor of ADDA immediate (30_encoding.md R107, R126): ADD is 3, Memory 5 at bit 8, immediate 1 at bit 14, H N Z V C 0x2F at
bit 17. A descriptor with an 8-bit kind on the index register is refused (R117, R119). -/
theorem test_descriptor :
    (descriptorOf 0x8B).pack = 0x005E4503 ∧
      (Descriptor.execute { descriptorOf 0x8B with dst := some .indexReg } 0x8B (at0100 [0x8B, 0x01]) matches
        .refused (.malformedDescriptor 0x8B)) = true := by decide

/-- The width column of 30_encoding.md R126: ADDA 8, BSR 8, LDX 16, RTS 16, and a dash for JMP and the illegal kind. -/
theorem test_descriptor_width :
    ([0x8B, 0x8D, 0xCE, 0x39, 0x7E, 0x00] : List Byte).map (fun op => (descriptorOf op).kind.width) =
      [some 8, some 8, some 16, some 16, none, none] := by decide

/-! Witnesses: for each statement that has hypotheses, a state or term that meets them; where it has clauses, one for each. -/

/-- A state with ROM from 0xF000 on and a device at 0x8000 to 0x8003. -/
def windows (s : State) : State :=
  { s with config := { defaultConfig with regions := [⟨0xF000, 0x1000, .rom⟩, ⟨0x8000, 4, .device⟩] } }

theorem witness_EncodeThenDecode : (Instr.illegal 0xFD).wellFormed = true ∧ (Instr.cpx (.ext 0xFFFF)).wellFormed = true := by
  decide

theorem witness_DecodeThenEncode : decode [0xBD, 0xE1, 0x23, 0x00] = .ok (.jsr (.ext 0xE123)) [0x00] := by decide

/-- Enough bytes and too few, for each length. -/
theorem witness_EveryOpcodeDecodes :
    (opcodeLength 0x3F ≤ ([] : List Byte).length + 1 ∧ opcodeLength 0x20 ≤ [(0 : Byte)].length + 1 ∧
        opcodeLength 0xBD ≤ [(0 : Byte), 0].length + 1) ∧
      ([] : List Byte).length + 1 < opcodeLength 0x20 ∧ [(0 : Byte)].length + 1 < opcodeLength 0xBD := by decide

theorem witness_IllegalOpcodesAreTheListed : (0x00 : Byte) ∈ illegalOpcodes ∧ (0x01 : Byte) ∉ illegalOpcodes := by decide

/-- Both sides of the hypothesis: the adjustment 1 at TSX, and the adjustment 0 away from TSX and TXS. -/
theorem witness_DescriptorMatchesInstruction :
    (at0100 [0x30]).config.tsxTxsAdjust = 1 ∧
      (let s := { at0100 [0x3F] with config := { defaultConfig with tsxTxsAdjust := 0 } }
       s.byteAt s.pc ≠ 0x30 ∧ s.byteAt s.pc ≠ 0x35) := by decide

/-- One, two and three bytes, the last across the end of the address space. -/
theorem witness_StepRunsDecodedInstruction :
    (let s := at0100 [0x3F]
     s.blockMoves ∧ s.run = .running ∧ s.quiet ∧ decode [s.atMove.fetch8.1] = .ok .swi []) ∧
    (let s := { at0100 [0x20, 0xFE] with moves := [.block] }
     s.blockMoves ∧ s.run = .running ∧ s.quiet ∧
       decode [s.atMove.fetch8.1, s.atMove.fetch8.2.fetch8.1] = .ok (.bra 0xFE) []) ∧
    (let s := { place (at0100 []) 0xFFFE [0xFE, 0x12, 0x34] with pc := 0xFFFE }
     s.blockMoves ∧ s.run = .running ∧ s.quiet ∧
       decode [s.atMove.fetch8.1, s.atMove.fetch8.2.fetch8.1, s.atMove.fetch8.2.fetch8.2.fetch8.1] =
         .ok (.ldx (.ext 0x1234)) []) := by decide

theorem witness_StepPastInstructionBytes :
    (let s := { place (at0100 []) 0xFFFE [0xFE, 0x12, 0x34] with pc := 0xFFFE }
     let i := Instr.ldx (.ext 0x1234)
     s.blockMoves ∧ s.run = .running ∧ s.quiet ∧ i.wellFormed = true ∧
       ∀ k (h : k < (encode i).length),
         s.kindAt (s.pc + BitVec.ofNat 16 k) ≠ .device ∧ s.byteAt (s.pc + BitVec.ofNat 16 k) = (encode i)[k]) := by decide

/-- A RESET held, a RESET pulse and HALT; then NMI, IRQ, and an IRQ that is masked. -/
theorem witness_BoundaryPriority :
    ((scene []).blockMoves ∧ (scene []).run = .running) ∧
    ({ scene [] with resetLine := true }).resetLine = true ∧ ({ scene [] with resetPending := true }).resetPending = true ∧
    ({ scene [] with haltLine := true }).haltLine = true ∧
    (let s := { scene [] with nmiLatch := true, irqLine := true }
     s.resetLine = false ∧ s.resetPending = false ∧ s.haltLine = false ∧ s.nmiLatch = true) ∧
    (let s := { scene [] with irqLine := true }
     s.resetLine = false ∧ s.resetPending = false ∧ s.haltLine = false ∧ s.nmiLatch = false ∧ s.irqLine = true ∧
       flagI s.cc = false) ∧
    (let s := { scene [] with irqLine := true, cc := 0x10 }
     s.resetLine = false ∧ s.resetPending = false ∧ s.haltLine = false ∧ s.nmiLatch = false ∧ flagI s.cc = true) := by decide

/-- A wait that an NMI, an IRQ and a RESET end, and one that nothing ends. -/
theorem witness_WaitingStep :
    (let s := { scene [] with run := .waiting, nmiLatch := true }
     s.blockMoves ∧ s.run = .waiting ∧ s.nmiLatch = true) ∧
    (let s := { scene [] with run := .waiting, irqLine := true }
     s.blockMoves ∧ s.run = .waiting ∧ s.irqLine = true ∧ flagI s.cc = false) ∧
    (let s := { scene [] with run := .waiting, resetPending := true }
     s.blockMoves ∧ s.run = .waiting ∧ (s.resetLine = true ∨ s.resetPending = true) ∧ s.config.waiWakeOnReset = true) ∧
    (let s := { scene [] with run := .waiting, irqLine := true, cc := 0x10, haltLine := true }
     s.blockMoves ∧ s.run = .waiting ∧ s.nmiLatch = false ∧ (s.irqLine = false ∨ flagI s.cc = true) ∧
       ((s.resetLine = false ∧ s.resetPending = false) ∨ s.config.waiWakeOnReset = false)) := by decide

theorem witness_HaltedAndOffSteps :
    (let s := { scene [] with run := .halted, haltLine := true }
     s.blockMoves ∧ s.run = .halted ∧ (s.resetLine = true ∨ s.haltLine = true)) ∧
    (let s := { scene [] with run := .halted }
     s.blockMoves ∧ s.run = .halted ∧ s.resetLine = false ∧ s.haltLine = false ∧ s.resetPending = false) ∧
    (let s := { scene [] with run := .halted, resetPending := true }
     s.blockMoves ∧ s.run = .halted ∧ s.resetLine = false ∧ s.haltLine = false ∧ s.resetPending = true) ∧
    (let s := { scene [] with run := .off }
     s.blockMoves ∧ s.run = .off) := by decide

/-- Every interaction can stand first; powerOn of a block that is not Off, a cancellation in Waiting and in Halted. -/
theorem witness_HostInteractions :
    (∀ x ∈ [HostAction.raiseIRQ, .lowerIRQ, .tripNMI, .raiseRESET, .lowerRESET, .raiseHALT, .lowerHALT, .powerOff],
      ({ scene [] with moves := [.host x, .block] }).moves.head? = some (.host x)) ∧
    (let s := { scene [] with moves := [.host .powerOn] }
     s.moves.head? = some (.host .powerOn) ∧ s.run ≠ .off) ∧
    (let s := { scene [] with moves := [.host .cancelWait], run := .waiting }
     s.moves.head? = some (.host .cancelWait) ∧ s.run = .waiting) ∧
    (let s := { scene [] with moves := [.host .cancelWait], run := .halted }
     s.moves.head? = some (.host .cancelWait) ∧ s.run = .halted) := by decide

/-- A first and a later powerOn. -/
theorem witness_PowerOnSequence :
    (let s := { scene [] with moves := [.host .powerOn], run := .off, poweredOnce := false }
     s.moves.head? = some (.host .powerOn) ∧ s.run = .off ∧ s.poweredOnce = false) ∧
    (let s := { scene [] with moves := [.host .powerOn], run := .off }
     s.moves.head? = some (.host .powerOn) ∧ s.run = .off ∧ s.poweredOnce = true) := by decide

/-- For each change of the table a state whose step makes it. -/
theorem witness_RunStateTransitions :
    ∀ p ∈ ([({ scene [] with moves := [.host .powerOn], run := .off }, .running),
        ({ scene [] with moves := [.host .powerOff] }, .off),
        ({ scene [] with moves := [.host .cancelWait], run := .waiting }, .off), (scene [0x3E], .waiting),
        ({ scene [] with haltLine := true }, .halted), ({ scene [] with run := .waiting, nmiLatch := true }, .running),
        ({ scene [] with run := .waiting, resetLine := true }, .halted), ({ scene [] with run := .halted }, .running)] :
        List (State × RunState)),
      (afterStep p.1).isSome = true ∧ (after p.1).run ≠ p.1.run ∧ (after p.1).run = p.2 := by decide +kernel

theorem witness_FirstPowerOnGivesReset :
    (let s := { State.reset with run := .off, poweredOnce := false, bus := [], moves := [.host .powerOn] }
     s.run = .off ∧ s.poweredOnce = false ∧ s.mem = [] ∧ s.config = defaultConfig ∧ s.irqLine = false ∧ s.nmiLatch = false ∧
       s.resetLine = false ∧ s.haltLine = false ∧ s.reports = [] ∧ s.deviceLog = [] ∧ s.moves = [.host .powerOn]) := by decide

/-- A step from a state with the invariant that stores to memory. -/
theorem witness_StepKeepsInvariant :
    (scene [0x3F]).Inv ∧ step (scene [0x3F]) = .next (after (scene [0x3F])) ∧ (after (scene [0x3F])).mem ≠ (scene [0x3F]).mem :=
  ⟨by decide, next_after _ (by decide), by decide +kernel⟩

/-- A state whose frame wraps at the end of the address space. -/
def lowStack : State := { at0100 [] with sp := 0x0002, cc := 0x2B }

/-- Its frame lies in RAM, and an entry through the SWI vector gives the second state. -/
theorem witness_EntryThenRtiRestores :
    lowStack.allRam (lowStack.frame.map Prod.fst) ∧ lowStack.entered (lowStack.enterFrame 0xFFFA) 0xFFFA :=
  ⟨fun _ _ => rfl, State.enterFrame_entered lowStack 0xFFFA⟩

theorem witness_DaaGivesDecimalSum : (0 < 100 ∧ 99 < 100) ∧ (DaaVRule.clear ≠ DaaVRule.preserve) := by decide

/-- The word whose second byte wraps to 0x0000, and one in the middle. -/
theorem witness_WordAccessIsBigEndian :
    ((at0100 []).kindAt 0xFFFF = .ram ∧ (at0100 []).kindAt (0xFFFF + 1) = .ram) ∧
      (at0100 []).kindAt 0x0100 = .ram ∧ (at0100 []).kindAt (0x0100 + 1) = .ram := by decide

/-- RAM beside a device, a device and ROM. -/
theorem witness_RamKeepsLastStore :
    (windows (at0100 [])).kindAt 0x8004 = .ram ∧ ((0x8004 : Word) ≠ 0x8003 ∧ (windows (at0100 [])).kindAt 0x8004 ≠ .device) ∧
      (windows (at0100 [])).kindAt 0x8003 ≠ .ram ∧ (windows (at0100 [])).kindAt 0xFFFF ≠ .ram := by decide

theorem witness_EqualMemoriesAreEqualData :
    Memory.wf [(0, 0x01), (65535, 0xFF)] = true ∧ ∀ a : Nat, Memory.read [(0, 0x01)] a = Memory.read [(0, 0x01)] a :=
  ⟨by decide, fun _ => rfl⟩

theorem witness_CompareIndexRegister :
    (at0100 []).config.cpxVRule = .lowByteOverflow ∧
      ({ at0100 [] with config := { defaultConfig with cpxVRule := .highByteOverflow } }).config.cpxVRule =
        .highByteOverflow := by decide

/-- The stack slot across the end of the address space. -/
theorem witness_CallThenReturn : ({ at0100 [] with sp := 0x0000 }).allRam [0x0000 - 1, 0x0000] :=
  fun _ _ => rfl

theorem witness_RtiWaiAndIllegal : (at0100 []).kindAt ((at0100 []).sp + 7) ≠ .device := by decide

/-- An instruction that stores answers a next state; 0x0011 is no address it stores to. -/
theorem witness_frames :
    (∃ t, exec (.staa (.dir 0x10)) (at0100 []) = .next t) ∧
      (0x0011 : Word) ∉ storedAddrs (.staa (.dir 0x10)) (at0100 []) ∧ (at0100 []).kindAt 0x0011 ≠ .device ∧
      mayWrite (.staa (.dir 0x10)) .a = false ∧ transfersControl (.staa (.dir 0x10)) = false ∧
      flagH (flagMask (.staa (.dir 0x10))) = false ∧ flagI (flagMask (.staa (.dir 0x10))) = false ∧
      flagC (flagMask (.staa (.dir 0x10))) = false ∧ Instr.staa (.dir 0x10) ≠ .wai := by
  exact ⟨⟨_, rfl⟩, by decide⟩

theorem witness_MemoryFrame : ∀ x ∈ storedAddrs (.staa (.dir 0x10)) (at0100 []), x.toNat ≠ 0x11 := by
  intro x h
  cases h with
  | head => decide
  | tail _ h => cases h

/-- The flags that an instruction of the last witness writes and others keep. -/
theorem witness_FlagFrame :
    flagN (flagMask .inx) = false ∧ flagZ (flagMask .sec) = false ∧ flagV (flagMask .inx) = false := by decide

theorem witness_ControlStateFrame : ∀ op, Instr.swi ≠ .illegal op := fun _ => Instr.noConfusion

/-- CLI with the mask set. -/
def masked : State := { scene [0x0E] with cc := 0x10 }

theorem witness_MaskClearedOnlyByCliTapRti :
    step masked = .next (after masked) ∧ flagI masked.cc = true ∧ flagI (after masked).cc = false :=
  ⟨next_after _ (by decide), by decide, by decide +kernel⟩

/-- An NMI service in Running and in Waiting, and a reset action under NMI_CLEARED_BY_RESET. -/
theorem witness_NmiLatchClearedOnlyByService :
    ∀ s ∈ [{ scene [] with nmiLatch := true }, { scene [] with nmiLatch := true, run := .waiting },
        { scene [] with
          nmiLatch := true
          run := .halted
          resetPending := true
          config := { defaultConfig with nmiClearedByReset := true } }],
      (afterStep s).isSome = true ∧ s.nmiLatch = true ∧ (after s).nmiLatch = false := by decide +kernel

/-- Off, Halted under RESET, Waiting unwoken, and Running going to Halted. -/
theorem witness_StoppedBlockIsSilent :
    ∀ s ∈ [{ scene [] with run := .off, resetLine := true }, { scene [] with run := .halted, resetLine := true },
        { scene [] with run := .waiting }, { scene [] with resetLine := true }],
      s.blockMoves ∧ (afterStep s).isSome = true ∧
        (s.run = .off ∨ (s.run = .halted ∧ (s.resetLine = true ∨ s.haltLine = true)) ∨
          (s.run = .waiting ∧ s.wakes = false) ∨ (s.run ≠ .halted ∧ (after s).run = .halted)) ∧
        (s.run ≠ .waiting → s.resetLine = true ∧ (s.run = .running ∨ s.haltAck = true)) := by decide +kernel

end Sys2Proof.Tests
end

section
/-!
The flag update primitive `SetCC` (00_scope.md R17).
-/

namespace Sys2Proof.Machine

/-- The six flags of a merge, each by the mask's own bit; collects the per-flag laws `flagH_setCc` to `flagC_setCc`. -/
theorem ccIs_setCc (old mask new : Cc) :
    ccIs (setCc old mask new) (if flagH mask then flagH new else flagH old)
      (if flagI mask then flagI new else flagI old) (if flagN mask then flagN new else flagN old)
      (if flagZ mask then flagZ new else flagZ old) (if flagV mask then flagV new else flagV old)
      (if flagC mask then flagC new else flagC old) :=
  ⟨flagH_setCc .., flagI_setCc .., flagN_setCc .., flagZ_setCc .., flagV_setCc .., flagC_setCc ..⟩

/-- The mask written `{N,Z,V,C}` holds those four flags and neither H nor I. -/
theorem ccIs_maskNZVC : ccIs maskNZVC false false true true true true :=
  ⟨flagH_maskNZVC, flagI_maskNZVC, flagN_maskNZVC, flagZ_maskNZVC, flagV_maskNZVC, flagC_maskNZVC⟩

/-- Settles O25: the merge equation is the definition of `SetCC`, and the flags are those of a merge. -/
theorem flagMergeKeepsOtherFlags : Obligations.FlagMergeKeepsOtherFlags := by
  intro s mask new
  have hmerge : s.setFlags mask new = { s with cc := (s.cc &&& ~~~mask) ||| (new &&& mask) } := rfl
  exact ⟨hmerge, ccIs_setCc s.cc mask new, ccIs_maskNZVC⟩

end Sys2Proof.Machine
end

section
/-!
What an instruction may change (10_state.md R34 to R47), said once: `exec_within` bounds the effect of every instruction
by its permit. The three frame statements and the whole-machine rules on I and the NMI latch read it off.
-/

namespace Sys2Proof.Machine

/-- What an operation may change: registers, PC, flags, the run state, the reports. -/
structure Permit where
  regs    : Reg → Bool
  pc      : Bool
  flags   : Cc
  run     : Prop
  reports : Prop

/-- What the spec lets an instruction change (R34, R36, R38, R394, R118). -/
def permitOf (i : Instr) : Permit :=
  ⟨mayWrite i, transfersControl i, flagMask i, i = .wai, ∃ op, i = .illegal op⟩

/-- The part of the state no instruction may change: lines, latches, parameters and coming moves (R44, R45). -/
def State.control (s : State) : Bool × Bool × Bool × Bool × Bool × Bool × List Move × Config :=
  (s.irqLine, s.nmiLatch, s.resetLine, s.haltLine, s.resetPending, s.poweredOnce, s.moves, s.config)

/-- `t` differs from `s` at most in memory, in bus traffic and in what the permit names. -/
structure State.Within (s : State) (p : Permit) (t : State) : Prop where
  regs    : ∀ r : Reg, p.regs r = false → t.reg r = s.reg r
  pc      : p.pc = false → t.pc = s.pc
  flags   : ∀ (k : Nat) (_ : k < 6), p.flags[k] = false → t.cc[k] = s.cc[k]
  control : t.control = s.control
  run     : ¬ p.run → t.run = s.run
  reports : ¬ p.reports → t.reports = s.reports

/-- The register behind an accumulator. -/
def Acc.toReg : Acc → Reg
  | .a => .a
  | .b => .b

section
variable {p : Permit} {s t u : State}

/-! The permitted changes: memory and bus traffic always, the rest under its permission; and one change after another. -/

theorem State.Within.trans (h : s.Within p t) (h' : t.Within p u) : s.Within p u where
  regs r hr := (h'.regs r hr).trans (h.regs r hr)
  pc hp := (h'.pc hp).trans (h.pc hp)
  flags k hk hm := (h'.flags k hk hm).trans (h.flags k hk hm)
  control := h'.control.trans h.control
  run hr := (h'.run hr).trans (h.run hr)
  reports hr := (h'.reports hr).trans (h.reports hr)

theorem State.within_traffic (s : State) (m : Memory) (b d : List BusAccess) :
    s.Within p { s with mem := m, bus := b, deviceLog := d } :=
  ⟨fun r _ => by cases r <;> rfl, fun _ => rfl, fun _ _ _ => rfl, rfl, fun _ => rfl, fun _ => rfl⟩

theorem State.within_refl (s : State) : s.Within p s := s.within_traffic s.mem s.bus s.deviceLog

theorem State.within_setAcc (s : State) {x : Acc} (v : Byte) (hx : p.regs x.toReg = true) :
    s.Within p (s.setAcc x v) where
  regs r hr := by cases x <;> cases r <;> simp_all [Acc.toReg, State.reg]
  pc _ := by cases x <;> rfl
  flags _ _ _ := by cases x <;> rfl
  control := by cases x <;> rfl
  run _ := by cases x <;> rfl
  reports _ := by cases x <;> rfl

theorem State.within_ix (s : State) (v : Word) (hx : p.regs .ix = true) : s.Within p { s with ix := v } :=
  ⟨fun r hr => by cases r <;> simp_all [State.reg], fun _ => rfl, fun _ _ _ => rfl, rfl, fun _ => rfl, fun _ => rfl⟩

theorem State.within_sp (s : State) (v : Word) (hx : p.regs .sp = true) : s.Within p { s with sp := v } :=
  ⟨fun r hr => by cases r <;> simp_all [State.reg], fun _ => rfl, fun _ _ _ => rfl, rfl, fun _ => rfl, fun _ => rfl⟩

theorem State.within_pc (s : State) (v : Word) (hp : p.pc = true) : s.Within p { s with pc := v } :=
  ⟨fun r _ => by cases r <;> rfl, fun h => by simp_all, fun _ _ _ => rfl, rfl, fun _ => rfl, fun _ => rfl⟩

theorem State.within_setFlags (s : State) {mask : Cc} (new : Cc) (hm : mask = p.flags) :
    s.Within p (s.setFlags mask new) :=
  ⟨fun r _ => by cases r <;> rfl, fun _ => rfl, fun k _ hk => by simp [setCc, hm, hk], rfl, fun _ => rfl, fun _ => rfl⟩

theorem State.within_cc (s : State) (v : Cc) (hm : p.flags = maskAll) : s.Within p { s with cc := v } :=
  have hall : ∀ (k : Nat) (_ : k < 6), maskAll[k] = true := by decide
  ⟨fun r _ => by cases r <;> rfl, fun _ => rfl, fun k hk h => by simp [hm, hall k hk] at h, rfl, fun _ => rfl,
    fun _ => rfl⟩

theorem State.within_run (s : State) (r : RunState) (hr : p.run) : s.Within p { s with run := r } :=
  ⟨fun r _ => by cases r <;> rfl, fun _ => rfl, fun _ _ _ => rfl, rfl, fun h => absurd hr h, fun _ => rfl⟩

theorem State.within_report (s : State) (addr : Word) (op : Byte) (hr : p.reports) : s.Within p (s.report addr op) :=
  ⟨fun r _ => by cases r <;> rfl, fun _ => rfl, fun _ _ _ => rfl, rfl, fun _ => rfl, fun h => absurd hr h⟩

/-! The shared operations. -/

theorem State.readSrc8_within (s : State) (src : Src8) : s.Within p (s.readSrc8 src).2 :=
  State.readSrc8_snd s src ▸ s.within_traffic _ _ _

theorem State.readSrc16_within (s : State) (src : Src16) : s.Within p (s.readSrc16 src).2 :=
  State.readSrc16_snd s src ▸ s.within_traffic _ _ _

theorem State.load8_within (s : State) (addr : Word) : s.Within p (s.load8 addr).2 := s.within_traffic _ _ _

theorem State.load16_within (s : State) (addr : Word) : s.Within p (s.load16 addr).2 := s.within_traffic _ _ _

theorem State.store8_within (s : State) (addr : Word) (v : Byte) : s.Within p (s.store8 addr v) :=
  s.within_traffic _ _ _

theorem State.store16_within (s : State) (addr v : Word) : s.Within p (s.store16 addr v) :=
  (s.store8_within _ _).trans (State.store8_within _ _ _)

theorem State.push8_within (s : State) (v : Byte) (hsp : p.regs .sp = true) : s.Within p (s.push8 v) :=
  (s.within_sp _ hsp).trans (State.store8_within _ _ _)

theorem State.push16_within (s : State) (v : Word) (hsp : p.regs .sp = true) : s.Within p (s.push16 v) :=
  (s.within_sp _ hsp).trans (State.store16_within _ _ _)

theorem State.pull8_within (s : State) (hsp : p.regs .sp = true) : s.Within p s.pull8.2 :=
  (s.within_sp _ hsp).trans (State.load8_within _ _)

theorem State.pull16_within (s : State) (hsp : p.regs .sp = true) : s.Within p s.pull16.2 :=
  (s.within_sp _ hsp).trans (State.load16_within _ _)

theorem State.loadVector_within (s : State) (v : Word) (hp : p.pc = true) : s.Within p (s.loadVector v) :=
  (s.load16_within v).trans (State.within_pc _ _ hp)

theorem State.enterFrame_within (s : State) (v : Word) (hsp : p.regs .sp = true) (hp : p.pc = true)
    (hm : maskI = p.flags) : s.Within p (s.enterFrame v) :=
  (s.push16_within s.pc hsp).trans <| (State.push16_within _ s.ix hsp).trans <|
    (State.push8_within _ s.a hsp).trans <| (State.push8_within _ s.b hsp).trans <|
    (State.push8_within _ _ hsp).trans <| (State.within_setFlags _ _ hm).trans <|
    State.loadVector_within _ v hp

/-- A return from interrupt may write every register, PC and every flag (R419). -/
theorem State.returnFromInterrupt_within (s : State) (hr : ∀ r, p.regs r = true) (hp : p.pc = true)
    (hm : p.flags = maskAll) : s.Within p s.returnFromInterrupt where
  regs r h := absurd (hr r) (by simp [h])
  pc h := absurd hp (by simp [h])
  flags := (s.within_cc s.returnFromInterrupt.cc hm).flags
  control := by simp [State.control]
  run _ := s.returnFromInterrupt_run
  reports _ := s.returnFromInterrupt_reports

/-! The shapes. -/

section
variable {x : Acc} {mask : Cc} {src : Src8} {ref : Ref} {ea : Word}

theorem accOperate_within {f : Byte → Byte → Alu 8} (h : accOperate x mask f src s = .next t)
    (hx : p.regs x.toReg = true) (hm : mask = p.flags) : s.Within p t := by
  obtain rfl := Host.Outcome.next.inj h
  exact (s.readSrc8_within src).trans ((State.within_setAcc _ _ hx).trans (State.within_setFlags _ _ hm))

theorem accCompare_within {f : Byte → Byte → Alu 8} (h : accCompare x mask f src s = .next t)
    (hm : mask = p.flags) : s.Within p t := by
  obtain rfl := Host.Outcome.next.inj h
  exact (s.readSrc8_within src).trans (State.within_setFlags _ _ hm)

theorem accWrite_within {o : Alu 8} (h : accWrite x mask o s = .next t) (hx : p.regs x.toReg = true)
    (hm : mask = p.flags) : s.Within p t := by
  obtain rfl := Host.Outcome.next.inj h
  exact (s.within_setAcc _ hx).trans (State.within_setFlags _ _ hm)

theorem flagsOnly_within {new : Cc} (h : flagsOnly mask new s = .next t) (hm : mask = p.flags) :
    s.Within p t := by
  obtain rfl := Host.Outcome.next.inj h
  exact s.within_setFlags _ hm

theorem memOperate_within {f : Byte → Alu 8} (h : memOperate mask f ref s = .next t) (hm : mask = p.flags) :
    s.Within p t := by
  obtain rfl := Host.Outcome.next.inj h
  exact (s.load8_within _).trans ((State.store8_within _ _ _).trans (State.within_setFlags _ _ hm))

theorem storeByte_within {o : Alu 8} (h : storeByte ea mask o s = .next t) (hm : mask = p.flags) :
    s.Within p t := by
  obtain rfl := Host.Outcome.next.inj h
  exact (s.store8_within _ _).trans (State.within_setFlags _ _ hm)

theorem storeWord_within {v : Word} (h : storeWord ea v s = .next t) (hm : maskNZV = p.flags) :
    s.Within p t := by
  obtain rfl := Host.Outcome.next.inj h
  exact (s.store16_within _ _).trans (State.within_setFlags _ _ hm)

theorem branchOn_within {k : BranchCond} {off : Byte} (h : branchOn k off s = .next t) (hp : p.pc = true) :
    s.Within p t := by
  obtain rfl := Host.Outcome.next.inj h
  split
  · exact s.within_pc _ hp
  · exact s.within_refl

theorem callTo_within {target : Word} (h : callTo target s = .next t) (hsp : p.regs .sp = true)
    (hp : p.pc = true) : s.Within p t := by
  obtain rfl := Host.Outcome.next.inj h
  exact (s.push16_within _ hsp).trans (State.within_pc _ _ hp)

end

end

/-- Every instruction stays within its permit. -/
theorem exec_within {i : Instr} {s t : State} (h : exec i s = .next t) : s.Within (permitOf i) t := by
  cases i <;> rw [exec] at h
  case ldaa | adda | adca | suba | sbca | anda | oraa | eora | ldab | addb | adcb | subb | sbcb | andb | orab | eorb =>
    exact accOperate_within h rfl rfl
  case cmpa | cmpb | bita | bitb => exact accCompare_within h rfl
  case tba | clra | aba | sba | nega | inca | deca | daa | coma | asla | asra | lsra | rola | rora
      | tab | clrb | negb | incb | decb | comb | aslb | asrb | lsrb | rolb | rorb =>
    exact accWrite_within h rfl rfl
  case cba | tsta | tstb | clc | sec | clv | sev | cli | sei => exact flagsOnly_within h rfl
  case neg | inc | dec | com | asl | asr | lsr | rol | ror => exact memOperate_within h rfl
  case staa | stab | clr => exact storeByte_within h rfl
  case stx | sts => exact storeWord_within h rfl
  case bra | bhi | bls | bcc | bcs | bne | beq | bvc | bvs | bpl | bmi | bge | blt | bgt | ble =>
    exact branchOn_within h rfl
  case bsr | jsr => exact callTo_within h rfl rfl
  all_goals obtain rfl := Host.Outcome.next.inj h
  case ldx src =>
    exact (s.readSrc16_within src).trans ((State.within_ix _ _ rfl).trans (State.within_setFlags _ _ rfl))
  case lds src =>
    exact (s.readSrc16_within src).trans ((State.within_sp _ _ rfl).trans (State.within_setFlags _ _ rfl))
  case cpx src => exact (s.readSrc16_within src).trans (State.within_setFlags _ _ rfl)
  case tst ref => exact (s.load8_within _).trans (State.within_setFlags _ _ rfl)
  case inx | dex => exact (s.within_ix _ rfl).trans (State.within_setFlags _ _ rfl)
  case tsx => exact s.within_ix _ rfl
  case ins | des | txs => exact s.within_sp _ rfl
  case tap => exact s.within_cc _ rfl
  case tpa => exact s.within_setAcc (x := .a) _ rfl
  case jmp => exact s.within_pc _ rfl
  case rts => exact (s.pull16_within rfl).trans (State.within_pc _ _ rfl)
  case psha | pshb => exact s.push8_within _ rfl
  case pula => exact (s.pull8_within rfl).trans (State.within_setAcc (x := .a) _ _ rfl)
  case pulb => exact (s.pull8_within rfl).trans (State.within_setAcc (x := .b) _ _ rfl)
  case nop => exact s.within_refl
  case swi => exact s.enterFrame_within _ rfl rfl rfl
  case rti => exact s.returnFromInterrupt_within (fun r => by cases r <;> rfl) rfl rfl
  case wai => exact s.within_run _ rfl
  case illegal op => exact s.within_report _ _ ⟨op, rfl⟩

/-- Settles O54: the registers and PC of `exec_within`. -/
theorem registerFrame : Obligations.RegisterFrame :=
  fun _ _ _ h => ⟨(exec_within h).regs, (exec_within h).pc⟩

/-- Settles O55: the flags of `exec_within`, each at its bit of CC. -/
theorem flagFrame : Obligations.FlagFrame := fun _ _ _ h =>
  have hf := (exec_within h).flags
  ⟨hf 5 (by decide), hf 4 (by decide), hf 3 (by decide), hf 2 (by decide), hf 1 (by decide), hf 0 (by decide)⟩

/-- Settles O56: the control part, the run state and the reports of `exec_within`. -/
theorem controlStateFrame : Obligations.ControlStateFrame := by
  intro i s t h
  have hw := exec_within h
  have hc := hw.control
  simp only [State.control, Prod.mk.injEq] at hc
  obtain ⟨hirq, hnmi, hreset, hhalt, hpend, honce, hmoves, hconfig⟩ := hc
  exact ⟨hirq, hnmi, hreset, hhalt, hpend, honce, hmoves, hconfig, hw.run, fun ho => hw.reports (not_exists.2 ho)⟩

end Sys2Proof.Machine
end

section
/-!
What a step does, said once: `step_stepsTo` sorts every step by the rule of 60_exceptions.md that makes it. The
whole-machine rules on the run state, the I flag and the NMI latch are case analyses on it.
-/

namespace Sys2Proof.Machine

/-- RESET and HALT are absent (60_exceptions.md R410). -/
abbrev State.linesLow (s : State) : Prop :=
  s.resetLine = false ∧ s.resetPending = false ∧ s.haltLine = false

/-- RESET, a pending RESET or HALT stops the block at the boundary (R410). -/
abbrev State.stops (s : State) : Prop := s.resetLine = true ∨ s.resetPending = true ∨ s.haltLine = true

/-! The state of a move differs from the one before in the bus and the list of moves only. -/

@[simp] theorem State.atMove_cc (s : State) : s.atMove.cc = s.cc := rfl
@[simp] theorem State.atMove_run (s : State) : s.atMove.run = s.run := rfl
@[simp] theorem State.atMove_nmiLatch (s : State) : s.atMove.nmiLatch = s.nmiLatch := rfl
@[simp] theorem State.atMove_config (s : State) : s.atMove.config = s.config := rfl

/-- The state in which a block that runs, or that wakes, takes the boundary step (R410, R420). -/
def State.atBoundary (s : State) : State := { s.atMove with run := .running }

theorem State.atBoundary_of_running {s : State} (h : s.run = .running) : s.atBoundary = s.atMove := by
  unfold State.atBoundary
  rw [← h]
  rfl

/-- The kinds of step, each with what enables it and the state it leaves. -/
inductive State.StepsTo (s : State) : State → Prop where
  /-- A host interaction (R440). -/
  | host (act : HostAction) (hm : s.moves.head? = some (.host act)) : s.StepsTo (s.atMove.hostAction act)
  /-- An iteration that changes nothing: Off, Waiting without a wake, Halted under a line (R431, R420, R425). -/
  | idle (hm : s.blockMoves) : s.StepsTo s.atMove
  /-- RESET or HALT at the boundary (R410), or right after a wake (R420). -/
  | halt (hm : s.blockMoves) (hr : s.run = .running ∨ s.run = .waiting ∧ s.wakes = true) (hl : s.stops) :
      s.StepsTo { s.atMove with run := .halted }
  /-- The service of an NMI (R411). -/
  | nmi (hm : s.blockMoves) (hr : s.run = .running ∨ s.run = .waiting) (hl : s.linesLow) (hn : s.nmiLatch = true) :
      s.StepsTo ({ s.atBoundary with nmiLatch := false }.enterFrame nmiVector)
  /-- The service of an IRQ (R412). -/
  | irq (hm : s.blockMoves) (hr : s.run = .running ∨ s.run = .waiting) (hn : s.nmiLatch = false)
      (hq : s.irqLine = true) (hi : flagI s.cc = false) :
      s.StepsTo (s.atBoundary.enterFrame irqVector)
  /-- The next instruction (R410). -/
  | instr {t : State} (hm : s.blockMoves) (hr : s.run = .running) (hq : s.quiet)
      (he : exec s.atMove.fetchInstr.1 s.atMove.fetchInstr.2 = .next t) : s.StepsTo t
  /-- The return from Halted without a reset action (R425). -/
  | resume (hm : s.blockMoves) (hr : s.run = .halted) (hreset : s.resetLine = false) (hhalt : s.haltLine = false) :
      s.StepsTo { s.atMove with run := .running }
  /-- The return from Halted with the reset action (R425). -/
  | reset (hm : s.blockMoves) (hr : s.run = .halted) (hreset : s.resetLine = false) (hhalt : s.haltLine = false)
      (hp : s.resetPending = true) : s.StepsTo { s.atMove.resetAction with run := .running }

/-- A step is the host's interaction that stands first. -/
theorem step_of_host {s : State} {act : HostAction} (h : s.moves.head? = some (.host act)) :
    step s = .next (s.atMove.hostAction act) := by
  obtain ⟨rest, hm⟩ := List.head?_eq_some_iff.1 h
  simp [step, State.nextMove, State.atMove, hm]

/-- A step is an iteration of the block when it is the block's turn. -/
theorem step_of_block {s : State} (h : s.blockMoves) : step s = s.atMove.blockStep := by
  rcases h with h | h
  · simp [step, State.nextMove, State.atMove, List.head?_eq_none_iff.1 h]
  · obtain ⟨rest, hm⟩ := List.head?_eq_some_iff.1 h
    simp [step, State.nextMove, State.atMove, hm]

/-- It is a host's turn or the block's. -/
theorem State.host_or_blockMoves (s : State) :
    (∃ act, s.moves.head? = some (.host act)) ∨ s.blockMoves := by
  unfold State.blockMoves
  rcases s.moves.head? with _ | _ | _ <;> simp

/-! The boundary step, branch by branch (R410). -/

section
variable {s : State}

theorem State.not_stops : ¬ s.stops ↔ s.linesLow := by simp [State.stops, State.linesLow]

theorem State.stepRunning_of_stops (h : s.stops) : s.stepRunning = .next { s with run := .halted } := by
  simp only [State.stepRunning, Bool.or_eq_true, or_assoc]
  exact if_pos h

theorem State.stepRunning_of_nmi (h : s.linesLow) (hn : s.nmiLatch = true) :
    s.stepRunning = .next ({ s with nmiLatch := false }.enterFrame nmiVector) := by
  simp [State.stepRunning, h, hn]

theorem State.stepRunning_of_irq (h : s.linesLow) (hn : s.nmiLatch = false) (hq : s.irqLine = true)
    (hi : flagI s.cc = false) : s.stepRunning = .next (s.enterFrame irqVector) := by
  simp [State.stepRunning, h, hn, hq, hi]

theorem State.stepRunning_of_quiet (h : s.quiet) : s.stepRunning = s.runInstr := by
  obtain ⟨hreset, hpend, hhalt, hn, hirq⟩ := h
  rcases hirq with hq | hi <;> simp [State.stepRunning, *]

/-- One of the four branches is taken. -/
theorem State.boundary_cases (s : State) :
    s.stops ∨ (s.linesLow ∧ s.nmiLatch = true) ∨
      (s.linesLow ∧ s.nmiLatch = false ∧ s.irqLine = true ∧ flagI s.cc = false) ∨ s.quiet := by
  by_cases hl : s.stops
  · exact .inl hl
  · obtain ⟨hreset, hpend, hhalt⟩ := State.not_stops.1 hl
    cases hn : s.nmiLatch <;> cases hq : s.irqLine <;> cases hi : flagI s.cc <;> simp [State.quiet, State.linesLow, *]

/-- A wait that ends finds something to do: with nothing pending there is no wake (R420). -/
theorem State.wakes_of_quiet (h : s.quiet) : s.wakes = false := by
  obtain ⟨hreset, hpend, -, hn, hirq⟩ := h
  rcases hirq with hq | hi <;> simp [State.wakes, *]

variable {t : State}

/-- The boundary step of a block that runs, or that wakes. -/
theorem stepsTo_of_boundary (hm : s.blockMoves) (hr : s.run = .running ∨ s.run = .waiting ∧ s.wakes = true)
    (h : s.atBoundary.stepRunning = .next t) : s.StepsTo t := by
  have hr' := hr.imp_right And.left
  rcases s.boundary_cases with hl | ⟨hl, hn⟩ | ⟨hl, hn, hq, hi⟩ | hq
  · rw [State.stepRunning_of_stops (s := s.atBoundary) hl] at h
    obtain rfl := Host.Outcome.next.inj h
    exact .halt hm hr hl
  · rw [State.stepRunning_of_nmi (s := s.atBoundary) hl hn] at h
    obtain rfl := Host.Outcome.next.inj h
    exact .nmi hm hr' hl hn
  · rw [State.stepRunning_of_irq (s := s.atBoundary) hl hn hq hi] at h
    obtain rfl := Host.Outcome.next.inj h
    exact .irq hm hr' hn hq hi
  · have hrun : s.run = .running := hr.resolve_right fun hw => by simp [State.wakes_of_quiet hq] at hw
    rw [State.stepRunning_of_quiet (s := s.atBoundary) hq, State.atBoundary_of_running hrun] at h
    exact .instr hm hrun hq h

/-! The halted step, branch by branch (R425). -/

theorem State.stepHalted_of_line (h : s.resetLine = true ∨ s.haltLine = true) : s.stepHalted = .next s := by
  rcases h with h | h <;> simp [State.stepHalted, h]

theorem State.stepHalted_of_pending (hreset : s.resetLine = false) (hhalt : s.haltLine = false)
    (hp : s.resetPending = true) : s.stepHalted = .next { s.resetAction with run := .running } := by
  simp [State.stepHalted, hreset, hhalt, hp]

theorem State.stepHalted_of_low (hreset : s.resetLine = false) (hhalt : s.haltLine = false)
    (hp : s.resetPending = false) : s.stepHalted = .next { s with run := .running } := by
  simp [State.stepHalted, hreset, hhalt, hp]

/-- The step of a halted block. -/
theorem stepsTo_of_halted (hm : s.blockMoves) (hr : s.run = .halted) (h : s.atMove.stepHalted = .next t) :
    s.StepsTo t := by
  by_cases hl : s.resetLine = true ∨ s.haltLine = true
  · rw [State.stepHalted_of_line (s := s.atMove) hl] at h
    obtain rfl := Host.Outcome.next.inj h
    exact .idle hm
  · simp only [not_or, Bool.not_eq_true] at hl
    obtain ⟨hreset, hhalt⟩ := hl
    cases hp : s.resetPending
    · rw [State.stepHalted_of_low (s := s.atMove) hreset hhalt hp] at h
      obtain rfl := Host.Outcome.next.inj h
      exact .resume hm hr hreset hhalt
    · rw [State.stepHalted_of_pending (s := s.atMove) hreset hhalt hp] at h
      obtain rfl := Host.Outcome.next.inj h
      exact .reset hm hr hreset hhalt hp

/-- The step of a waiting block (R420). -/
theorem stepsTo_of_waiting (hm : s.blockMoves) (hr : s.run = .waiting) (h : s.atMove.stepWaiting = .next t) :
    s.StepsTo t := by
  unfold State.stepWaiting at h
  split at h
  next hw => exact stepsTo_of_boundary hm (.inr ⟨hr, hw⟩) h
  next =>
    obtain rfl := Host.Outcome.next.inj h
    exact .idle hm

/-- Every step is of one of the kinds. -/
theorem step_stepsTo (h : step s = .next t) : s.StepsTo t := by
  rcases s.host_or_blockMoves with ⟨act, hm⟩ | hm
  · rw [step_of_host hm] at h
    obtain rfl := Host.Outcome.next.inj h
    exact .host act hm
  · rw [step_of_block hm] at h
    cases hr : s.run <;> simp only [State.blockStep, State.atMove_run, hr] at h
    case off =>
      obtain rfl := Host.Outcome.next.inj h
      exact .idle hm
    case running => exact stepsTo_of_boundary hm (.inl hr) (State.atBoundary_of_running hr ▸ h)
    case waiting => exact stepsTo_of_waiting hm hr h
    case halted => exact stepsTo_of_halted hm hr h

end

end Sys2Proof.Machine
end

section
/-!
The whole-machine rules on the run state, the I flag and the NMI latch: who may change each.
-/

namespace Sys2Proof.Machine

section
variable {s t : State}

/-! The fetch of an instruction changes PC, the bus and the device's history only (20_memory.md R78). -/

theorem State.fetchOperands_snd (s : State) (op : Byte) :
    (s.fetchOperands op).2 =
      { s with
        pc := (s.fetchOperands op).2.pc
        bus := (s.fetchOperands op).2.bus
        deviceLog := (s.fetchOperands op).2.deviceLog } := by
  unfold State.fetchOperands
  split <;> rfl

theorem State.fetchInstr_snd (s : State) :
    s.fetchInstr.2 =
      { s with pc := s.fetchInstr.2.pc, bus := s.fetchInstr.2.bus, deviceLog := s.fetchInstr.2.deviceLog } :=
  State.fetchOperands_snd s.fetch8.2 s.fetch8.1

@[simp] theorem State.fetchInstr_snd_cc (s : State) : s.fetchInstr.2.cc = s.cc := by
  rw [State.fetchInstr_snd]

@[simp] theorem State.fetchInstr_snd_run (s : State) : s.fetchInstr.2.run = s.run := by
  rw [State.fetchInstr_snd]

@[simp] theorem State.fetchInstr_snd_nmiLatch (s : State) : s.fetchInstr.2.nmiLatch = s.nmiLatch := by
  rw [State.fetchInstr_snd]

/-! The run state (60_exceptions.md R432). -/

@[simp] theorem State.powerOn_run (h : s.run = .off) : s.powerOn.run = .running := by
  simp [State.powerOn, h]

theorem State.powerOn_of_ne_off (h : s.run ≠ .off) : s.powerOn = s := if_neg h

/-- The host turns an Off block on, or any other block Off, and changes the run state in no other way. -/
theorem State.hostAction_run {act : HostAction} (h : (s.hostAction act).run ≠ s.run) :
    (s.run = .off ∧ (s.hostAction act).run = .running ∧ act = .powerOn) ∨
      (s.run ≠ .off ∧ (s.hostAction act).run = .off ∧ (act = .powerOff ∨ act = .cancelWait)) := by
  cases act
  case powerOn =>
    by_cases ho : s.run = .off
    · exact .inl ⟨ho, State.powerOn_run ho, rfl⟩
    · exact absurd (congrArg State.run (State.powerOn_of_ne_off ho)) h
  case powerOff => exact .inr ⟨h.symm, rfl, .inl rfl⟩
  case cancelWait =>
    by_cases hw : s.run = .waiting ∨ s.run = .halted
    · have ht : (s.hostAction .cancelWait).run = .off := congrArg State.run (if_pos hw)
      exact .inr ⟨fun ho => h (ht.trans ho.symm), ht, .inr rfl⟩
    · exact absurd (congrArg State.run (if_neg hw)) h
  all_goals exact absurd rfl h

/-- An instruction that changes the run state is WAI (45_stack_cc_system.md R394). -/
theorem exec_run {i : Instr} (h : exec i s = .next t) (hne : t.run ≠ s.run) : i = .wai ∧ t.run = .waiting := by
  have hi : i = .wai := by_contra fun hi => hne ((exec_within h).run hi)
  subst hi
  obtain rfl := Host.Outcome.next.inj h
  exact ⟨rfl, rfl⟩

/-! The I flag (10_state.md R40). -/

/-- No host interaction clears I: the only one that writes it is powerOn, which sets it. -/
theorem State.hostAction_flagI (act : HostAction) (h : flagI s.cc = true) : flagI (s.hostAction act).cc = true := by
  cases act
  case powerOn =>
    simp only [State.hostAction, State.powerOn]
    split <;> simp [h]
  case cancelWait =>
    simp only [State.hostAction]
    split <;> exact h
  all_goals exact h

theorem cases_of_flagI_flagMask {i : Instr} (h : flagI (flagMask i) = true) :
    i = .sei ∨ i = .swi ∨ i ∈ [Instr.cli, .tap, .rti] := by
  cases i <;> simp [flagMask] at h ⊢

/-- Of the five instructions that may write I, SEI and SWI set it. -/
theorem exec_clears_flagI {i : Instr} (h : exec i s = .next t) (hs : flagI s.cc = true) (ht : flagI t.cc = false) :
    i ∈ [Instr.cli, .tap, .rti] := by
  have hmask : flagI (flagMask i) = true := by
    by_contra hf
    have hkeep : flagI t.cc = flagI s.cc := (exec_within h).flags 4 (by decide) (Bool.eq_false_of_not_eq_true hf)
    simp [hs, ht] at hkeep
  rcases cases_of_flagI_flagMask hmask with rfl | rfl | hi
  · obtain rfl := Host.Outcome.next.inj h
    simp at ht
  · obtain rfl := Host.Outcome.next.inj h
    simp at ht
  · exact hi

/-! The NMI latch (10_state.md R44). -/

theorem State.Within.nmiLatch {p : Permit} (h : s.Within p t) : t.nmiLatch = s.nmiLatch :=
  congrArg (·.2.1) h.control

@[simp] theorem State.powerOn_nmiLatch (s : State) : s.powerOn.nmiLatch = s.nmiLatch := by
  unfold State.powerOn State.initRegisters
  split
  · split <;> rfl
  · rfl

/-- No host interaction clears the latch. -/
theorem State.hostAction_nmiLatch (act : HostAction) (h : s.nmiLatch = true) :
    (s.hostAction act).nmiLatch = true := by
  cases act
  case powerOn => exact (State.powerOn_nmiLatch s).trans h
  case tripNMI => rfl
  case cancelWait =>
    simp only [State.hostAction]
    split <;> exact h
  all_goals exact h

end

/-! The rules, each by the kind of the step. -/

/-- Settles O14: by the kind of the step. -/
theorem runStateTransitions : Obligations.RunStateTransitions := by
  intro s t h hne
  cases step_stepsTo h with
  | host act hm =>
    rcases State.hostAction_run (s := s.atMove) hne with ⟨hr, ht, rfl⟩ | ⟨hr, ht, rfl | rfl⟩
    · exact .inl ⟨hr, ht, hm⟩
    · exact .inr (.inl ⟨hr, ht, .inl hm⟩)
    · exact .inr (.inl ⟨hr, ht, .inr hm⟩)
  | idle => exact absurd rfl hne
  | halt hm hr hl =>
    refine .inr (.inr ⟨hm, ?_⟩)
    rcases hr with hr | ⟨hr, hw⟩
    · exact .inr (.inl ⟨hr, rfl, hl⟩)
    · exact .inr (.inr (.inr (.inl ⟨hr, rfl, hw, hl⟩)))
  | nmi hm hr hl hn =>
    have ht := State.enterFrame_run { s.atBoundary with nmiLatch := false } nmiVector
    have hw : s.run = .waiting := hr.resolve_left fun hr => hne (ht.trans hr.symm)
    exact .inr (.inr ⟨hm, .inr (.inr (.inl ⟨hw, ht, .inl hn⟩))⟩)
  | irq hm hr hn hq hi =>
    have ht := State.enterFrame_run s.atBoundary irqVector
    have hw : s.run = .waiting := hr.resolve_left fun hr => hne (ht.trans hr.symm)
    exact .inr (.inr ⟨hm, .inr (.inr (.inl ⟨hw, ht, .inr ⟨hq, hi⟩⟩))⟩)
  | instr hm hr hq he =>
    obtain ⟨hi, ht⟩ := exec_run he (by simpa using hne)
    exact .inr (.inr ⟨hm, .inl ⟨hr, ht, hq, hi⟩⟩)
  | resume hm hr hreset hhalt | reset hm hr hreset hhalt =>
    exact .inr (.inr ⟨hm, .inr (.inr (.inr (.inr ⟨hr, rfl, hreset, hhalt⟩)))⟩)

/-- Settles O58: every kind of step but the instruction keeps I or sets it. -/
theorem maskClearedOnlyByCliTapRti : Obligations.MaskClearedOnlyByCliTapRti := by
  intro s t h hs ht
  cases step_stepsTo h with
  | instr hm hr hq he => exact ⟨hm, hr, hq, exec_clears_flagI he (by simpa using hs) ht⟩
  | host act hm => simp [State.hostAction_flagI (s := s.atMove) act hs] at ht
  | idle | halt | resume => exact absurd (hs.symm.trans ht) (by decide)
  | nmi | irq => simp at ht
  | reset => simp [State.resetAction] at ht

/-- Settles O59: only the service of the NMI and the reset action write the latch to false. -/
theorem nmiLatchClearedOnlyByService : Obligations.NmiLatchClearedOnlyByService := by
  intro s t h hs ht
  cases step_stepsTo h with
  | nmi hm hr hl hn =>
    obtain ⟨hreset, hpend, hhalt⟩ := hl
    exact ⟨hm, .inl ⟨hr, hreset, hpend, hhalt, State.enterFrame_entered _ _⟩⟩
  | reset hm hr hreset hhalt hp =>
    exact ⟨hm, .inr ⟨hr, hp, by simpa [State.resetAction, hs] using ht⟩⟩
  | irq hm hr hn => exact absurd (hs.symm.trans hn) (by decide)
  | host act hm => simp [State.hostAction_nmiLatch (s := s.atMove) act hs] at ht
  | instr hm hr hq he =>
    have hkeep := (exec_within he).nmiLatch
    simp [hs, ht] at hkeep
  | idle | halt | resume => exact absurd (hs.symm.trans ht) (by decide)

end Sys2Proof.Machine
end

section
/-!
The fetch of an instruction whose encoding lies in memory at PC (20_memory.md R78, 30_encoding.md R101, R127).
-/

namespace Sys2Proof.Machine

/-! Decoding what the encoder writes. One lemma per number of operand bytes, then one per operand type: the opcode of
each form has that form in the grid (R120). -/

section
variable {op : Byte} {F : Form} (rest : List Byte)

theorem decode_form0 (h : formOf op = F) (hn : F.operandBytes = 0) :
    decode (op :: rest) = .ok (F.build 0 0) rest := by
  subst h
  simp only [decode, hn]

theorem decode_form1 {b1 : Byte} (h : formOf op = F) (hn : F.operandBytes = 1) :
    decode (op :: b1 :: rest) = .ok (F.build b1 0) rest := by
  subst h
  simp only [decode, hn]

theorem decode_form2 {b1 b2 : Byte} (h : formOf op = F) (hn : F.operandBytes = 2) :
    decode (op :: b1 :: b2 :: rest) = .ok (F.build b1 b2) rest := by
  subst h
  simp only [decode, hn]

/-- A word written high byte first is read back (R112). -/
theorem decode_ext {f : Word → Instr} (w : Word) (h : formOf op = .ext f) :
    decode ([op, hiByte w, loByte w] ++ rest) = .ok (f w) rest := by
  simpa [Form.build] using decode_form2 (b1 := hiByte w) (b2 := loByte w) rest h rfl

theorem decode_imm16 {f : Word → Instr} (w : Word) (h : formOf op = .imm16 f) :
    decode ([op, hiByte w, loByte w] ++ rest) = .ok (f w) rest := by
  simpa [Form.build] using decode_form2 (b1 := hiByte w) (b2 := loByte w) rest h rfl

theorem decode_encodeSrc8 {f : Src8 → Instr} (src : Src8) (himm : formOf op = .imm8 fun b => f (.imm b))
    (hdir : formOf (op + 0x10) = .dir fun b => f (.dir b)) (hidx : formOf (op + 0x20) = .idx fun b => f (.idx b))
    (hext : formOf (op + 0x30) = .ext fun w => f (.ext w)) :
    decode (encodeSrc8 op src ++ rest) = .ok (f src) rest := by
  cases src
  case imm => exact decode_form1 rest himm rfl
  case dir => exact decode_form1 rest hdir rfl
  case idx => exact decode_form1 rest hidx rfl
  case ext w => exact decode_ext rest w hext

theorem decode_encodeSrc16 {f : Src16 → Instr} (src : Src16) (himm : formOf op = .imm16 fun w => f (.imm w))
    (hdir : formOf (op + 0x10) = .dir fun b => f (.dir b)) (hidx : formOf (op + 0x20) = .idx fun b => f (.idx b))
    (hext : formOf (op + 0x30) = .ext fun w => f (.ext w)) :
    decode (encodeSrc16 op src ++ rest) = .ok (f src) rest := by
  cases src
  case imm w => exact decode_imm16 rest w himm
  case dir => exact decode_form1 rest hdir rfl
  case idx => exact decode_form1 rest hidx rfl
  case ext w => exact decode_ext rest w hext

theorem decode_encodeDst {f : Dst → Instr} (dst : Dst) (hdir : formOf op = .dir fun b => f (.dir b))
    (hidx : formOf (op + 0x10) = .idx fun b => f (.idx b)) (hext : formOf (op + 0x20) = .ext fun w => f (.ext w)) :
    decode (encodeDst op dst ++ rest) = .ok (f dst) rest := by
  cases dst
  case dir => exact decode_form1 rest hdir rfl
  case idx => exact decode_form1 rest hidx rfl
  case ext w => exact decode_ext rest w hext

theorem decode_encodeRef {f : Ref → Instr} (ref : Ref) (hidx : formOf op = .idx fun b => f (.idx b))
    (hext : formOf (op + 0x10) = .ext fun w => f (.ext w)) :
    decode (encodeRef op ref ++ rest) = .ok (f ref) rest := by
  cases ref
  case idx => exact decode_form1 rest hidx rfl
  case ext w => exact decode_ext rest w hext

theorem decode_rel {f : Byte → Instr} (off : Byte) (h : formOf op = .rel f) :
    decode ([op, off] ++ rest) = .ok (f off) rest := decode_form1 rest h rfl

theorem decode_inh {i : Instr} (h : formOf op = .inh i) : decode ([op] ++ rest) = .ok i rest :=
  decode_form0 rest h rfl

end

theorem formOf_illegal : ∀ op ∈ illegalOpcodes, formOf op = ill op := by
  intro op h
  fin_cases h <;> rfl

/-- The decoder reads back what the encoder writes, whatever follows. -/
theorem decode_encode {i : Instr} (rest : List Byte) (h : i.wellFormed = true) :
    decode (encode i ++ rest) = .ok i rest := by
  cases i <;> rw [encode]
  case illegal op => exact decode_inh rest (formOf_illegal op (List.contains_iff_mem.1 h))
  case ldaa | ldab | adda | addb | adca | adcb | suba | subb | sbca | sbcb | cmpa | cmpb | anda | andb | bita | bitb
      | oraa | orab | eora | eorb =>
    exact decode_encodeSrc8 rest _ rfl rfl rfl rfl
  case ldx | lds | cpx => exact decode_encodeSrc16 rest _ rfl rfl rfl rfl
  case staa | stab | stx | sts => exact decode_encodeDst rest _ rfl rfl rfl
  case clr | neg | inc | dec | tst | com | asl | asr | lsr | rol | ror | jmp | jsr =>
    exact decode_encodeRef rest _ rfl rfl
  case bra | bhi | bls | bcc | bcs | bne | beq | bvc | bvs | bpl | bmi | bge | blt | bgt | ble | bsr =>
    exact decode_rel rest _ rfl
  all_goals exact decode_inh rest rfl

/-! Fetching bytes that lie in memory at PC, outside device windows (20_memory.md R78). -/

/-- The bytes lie at the addresses from PC on, and no device window is among them. -/
def State.holdsAtPc (s : State) (l : List Byte) : Prop :=
  ∀ k (h : k < l.length),
    s.kindAt (s.pc + BitVec.ofNat 16 k) ≠ .device ∧ s.byteAt (s.pc + BitVec.ofNat 16 k) = l[k]

/-- The state with PC past the bytes and their reads on the bus. -/
def State.past (s : State) (l : List Byte) : State :=
  { s with
    pc := s.pc + BitVec.ofNat 16 l.length
    bus := s.bus ++ l.mapIdx fun k v => .read (s.pc + BitVec.ofNat 16 k) v }

section
variable {s : State} {v op : Byte} {l : List Byte} {i : Instr}

theorem word_add_one_add_ofNat (w : Word) (n : Nat) : w + 1#16 + BitVec.ofNat 16 n = w + BitVec.ofNat 16 (n + 1) := by
  rw [BitVec.add_assoc, BitVec.ofNat_add, BitVec.add_comm 1#16]

theorem State.past_nil (s : State) : s.past [] = s := by
  simp [State.past]

/-- Going past bytes one after another. -/
theorem State.past_cons (s : State) (v : Byte) (l : List Byte) : s.past (v :: l) = (s.past [v]).past l := by
  simp [State.past, List.mapIdx_cons, word_add_one_add_ofNat]

theorem State.deviceLogAfter_of_ne_device {a : Word} {x : BusAccess} (h : s.kindAt a ≠ .device) :
    s.deviceLogAfter a x = s.deviceLog := by
  unfold State.deviceLogAfter
  cases hk : s.kindAt a <;> simp_all

theorem State.fetch8_of_holdsAtPc (h : s.holdsAtPc (v :: l)) : s.fetch8 = (v, s.past [v]) := by
  have hv := h 0 (Nat.zero_lt_succ _)
  simp only [BitVec.add_zero, List.getElem_cons_zero] at hv
  obtain ⟨hdev, rfl⟩ := hv
  simp [State.fetch8_eq, State.past, State.logAccess, State.deviceLogAfter_of_ne_device hdev]

theorem State.holdsAtPc_tail (h : s.holdsAtPc (v :: l)) : (s.past [v]).holdsAtPc l := by
  intro k hk
  have hv := h (k + 1) (Nat.succ_lt_succ hk)
  rwa [← word_add_one_add_ofNat] at hv

/-- The operand bytes of an opcode, as the decoder reads them. -/
theorem State.fetchOperands_of_holdsAtPc (h : decode (op :: l) = .ok i []) (hl : s.holdsAtPc l) :
    s.fetchOperands op = (i, s.past l) := by
  simp only [decode] at h
  split at h
  next hn =>
    cases h
    simp only [State.fetchOperands, hn, State.past_nil]
  next b1 _ hn =>
    cases h
    simp only [State.fetchOperands, hn, State.fetch8_of_holdsAtPc hl]
  next b1 b2 _ hn =>
    cases h
    have h2 := State.fetch8_of_holdsAtPc (State.holdsAtPc_tail hl)
    simp only [State.fetchOperands, hn, State.fetch8_of_holdsAtPc hl, h2, State.past_cons s b1 [b2]]
  next => cases h

/-- The fetch of an instruction, as the decoder reads its bytes. -/
theorem State.fetchInstr_of_holdsAtPc (h : decode l = .ok i []) (hl : s.holdsAtPc l) :
    s.fetchInstr = (i, s.past l) := by
  cases l with
  | nil => cases h
  | cons op l =>
    have hop := State.fetchOperands_of_holdsAtPc h (State.holdsAtPc_tail hl)
    rw [State.past_cons, ← hop, State.fetchInstr, State.fetch8_of_holdsAtPc hl]

end

/-- Settles O8: a quiet boundary runs the instruction (R410), and the fetch reads back what the encoder writes. -/
theorem stepPastInstructionBytes : Obligations.StepPastInstructionBytes := by
  intro s i hm hr hq hwf hbytes
  have hdec : decode (encode i) = .ok i [] := by simpa using decode_encode [] hwf
  have hfetch : s.atMove.fetchInstr = (i, s.atMove.past (encode i)) :=
    State.fetchInstr_of_holdsAtPc hdec hbytes
  calc step s = s.atMove.blockStep := step_of_block hm
    _ = s.atMove.stepRunning := by simp only [State.blockStep, State.atMove_run, hr]
    _ = s.atMove.runInstr := State.stepRunning_of_quiet hq
    _ = exec i (s.atMove.past (encode i)) := by rw [State.runInstr, hfetch]

end Sys2Proof.Machine
end

section
/-!
Memory and its access: the canonical form is determined by what is read, a store is read back, and words, fetches,
pushes and pulls are byte accesses in order (20_memory.md R70 to R80).
-/

namespace Sys2Proof.Machine

/-! The canonical form (R70). -/

theorem Memory.wfFrom_cons {lo k : Nat} {x : Byte} {m : Memory} :
    Memory.wfFrom lo ((k, x) :: m) = true ↔
      lo ≤ k ∧ k < 65536 ∧ x ≠ unlistedByte ∧ Memory.wfFrom (k + 1) m = true := by
  simp [Memory.wfFrom, and_assoc]

@[simp] theorem Memory.read_cons_self (k : Nat) (x : Byte) (m : Memory) : Memory.read ((k, x) :: m) k = x :=
  if_pos rfl

theorem Memory.read_cons_of_ne {k a : Nat} (x : Byte) (m : Memory) (h : k ≠ a) :
    Memory.read ((k, x) :: m) a = Memory.read m a := if_neg h

/-- Below its first address a canonical memory lists nothing. -/
theorem Memory.read_of_lt {lo a : Nat} {m : Memory} (h : Memory.wfFrom lo m = true) (ha : a < lo) :
    Memory.read m a = unlistedByte := by
  induction m generalizing lo with
  | nil => rfl
  | cons c m ih =>
    obtain ⟨hlo, -, -, hm⟩ := Memory.wfFrom_cons.1 h
    rw [Memory.read_cons_of_ne _ _ (by omega), ih hm (by omega)]

/-- A memory that reads as a canonical memory with a first address lists an address not above it first. -/
theorem Memory.exists_cons_le {lo lo' k : Nat} {x : Byte} {m n : Memory}
    (hm : Memory.wfFrom lo ((k, x) :: m) = true) (hn : Memory.wfFrom lo' n = true)
    (h : Memory.read ((k, x) :: m) k = Memory.read n k) : ∃ k' x' n', n = (k', x') :: n' ∧ k' ≤ k := by
  obtain ⟨-, -, hx, -⟩ := Memory.wfFrom_cons.1 hm
  rw [Memory.read_cons_self] at h
  cases n with
  | nil => exact absurd h hx
  | cons c n =>
    refine ⟨c.1, c.2, n, rfl, le_of_not_gt fun hlt => hx (h.trans ?_)⟩
    obtain ⟨-, hc, hx', hn'⟩ := Memory.wfFrom_cons.1 hn
    exact Memory.read_of_lt (Memory.wfFrom_cons.2 ⟨le_rfl, hc, hx', hn'⟩) hlt

/-- Memories canonical from some addresses on that read the same are equal. -/
theorem Memory.eq_of_read_eq {lo lo' : Nat} {m n : Memory} (hm : Memory.wfFrom lo m = true)
    (hn : Memory.wfFrom lo' n = true) (h : ∀ a, Memory.read m a = Memory.read n a) : m = n := by
  induction m generalizing lo lo' n with
  | nil =>
    cases n with
    | nil => rfl
    | cons c n =>
      obtain ⟨_, _, _, hnil, -⟩ := Memory.exists_cons_le hn hm (h c.1).symm
      cases hnil
  | cons c m ih =>
    obtain ⟨k, x⟩ := c
    obtain ⟨k', x', n', rfl, hle⟩ := Memory.exists_cons_le hm hn (h k)
    obtain ⟨_, _, _, hcons, hge⟩ := Memory.exists_cons_le hn hm (h k').symm
    cases hcons
    obtain rfl := le_antisymm hle hge
    obtain ⟨-, -, -, hm'⟩ := Memory.wfFrom_cons.1 hm
    obtain ⟨-, -, -, hn'⟩ := Memory.wfFrom_cons.1 hn
    have hx : x = x' := by simpa using h k'
    have htail : m = n' := ih hm' hn' fun a => by
      by_cases ha : k' = a
      · rw [Memory.read_of_lt hm' (by omega), Memory.read_of_lt hn' (by omega)]
      · simpa only [Memory.read_cons_of_ne _ _ ha] using h a
    rw [hx, htail]

/-- Settles O29: both are canonical from address 0 on. -/
theorem equalMemoriesAreEqualData : Obligations.EqualMemoriesAreEqualData :=
  fun _ _ hm hn h => Memory.eq_of_read_eq hm hn h

section
variable {s : State} {a b : Word}

/-! Bytes after an access (R72, R73). -/

theorem State.ne_device_of_ram (h : s.kindAt a = .ram) : s.kindAt a ≠ .device := by
  rw [h]
  decide

/-- A store to ROM or to a device window leaves memory as it was. -/
theorem State.memAfterStore_of_ne_ram (v : Byte) (h : s.kindAt a ≠ .ram) : s.memAfterStore a v = s.mem := by
  unfold State.memAfterStore
  split
  next hk => exact absurd hk h
  all_goals rfl

/-- Outside device windows a load at another address gives what it gave before the store. -/
theorem State.byteAt_store8_of_ne (v : Byte) (hb : b ≠ a) (hk : s.kindAt b ≠ .device) :
    (s.store8 a v).byteAt b = s.byteAt b := by
  have hn : b.toNat ≠ a.toNat := fun e => hb (BitVec.eq_of_toNat_eq e)
  rw [State.byteAt_of_ne_device (s := s.store8 a v) hk, State.byteAt_of_ne_device hk, State.store8_mem,
    State.read_memAfterStore, if_neg fun e => hn e.1]

/-- Outside device windows a load gives the same byte whatever accesses came before. -/
theorem State.byteAt_logAccess (x : BusAccess) (hk : s.kindAt b ≠ .device) :
    (s.logAccess a x).byteAt b = s.byteAt b := by
  rw [State.byteAt_of_ne_device (s := s.logAccess a x) hk, State.byteAt_of_ne_device hk, State.logAccess_mem]

/-! Words (R74 to R76). -/

theorem word_add_one_ne (a : Word) : a + 1 ≠ a := by bv_omega

/-- Outside device windows a word is the byte at the address over the byte at the next. -/
theorem State.wordAt_of_ne_device (h : s.kindAt (a + 1) ≠ .device) :
    s.wordAt a = wordOf (s.byteAt a) (s.byteAt (a + 1)) := by
  rw [State.wordAt, State.byteAt_logAccess _ h]

/-- Outside device windows an access only joins the bus. -/
theorem State.logAccess_of_ne_device (x : BusAccess) (h : s.kindAt a ≠ .device) :
    s.logAccess a x = { s with bus := s.bus ++ [x] } := by
  rw [State.logAccess, State.deviceLogAfter_of_ne_device h]

/-- A word load outside device windows is two reads. -/
theorem State.load16_snd_of_ne_device (h : s.kindAt a ≠ .device) (h' : s.kindAt (a + 1) ≠ .device) :
    (s.load16 a).2 =
      { s with bus := s.bus ++ [.read a (s.byteAt a), .read (a + 1) (s.byteAt (a + 1))] } := by
  rw [State.load16_eq, State.load8_snd, State.load8_snd, State.byteAt_logAccess _ h',
    State.logAccess_of_ne_device (s := s.logAccess a _) _ h', State.logAccess_of_ne_device _ h, List.append_assoc]
  rfl

/-- A word load gives the word at the address, and its two transactions show the bytes of that word. -/
theorem State.load16_snd_bus_bytes (s : State) (a : Word) :
    (s.load16 a).2.bus = s.bus ++ [.read a (hiByte (s.wordAt a)), .read (a + 1) (loByte (s.wordAt a))] := by
  rw [State.load16_snd_bus, State.wordAt, hiByte_wordOf, loByte_wordOf, List.append_assoc]
  rfl

theorem State.byteAt_store16_hi (w : Word) (h : s.kindAt a = .ram) : (s.store16 a w).byteAt a = hiByte w := by
  rw [State.store16,
    State.byteAt_store8_of_ne (s := s.store8 a _) _ (word_add_one_ne a).symm (State.ne_device_of_ram h),
    State.byteAt_store8 _ _ _ _ h, if_pos rfl]

theorem State.byteAt_store16_lo (w : Word) (h : s.kindAt (a + 1) = .ram) :
    (s.store16 a w).byteAt (a + 1) = loByte w := by
  rw [State.store16, State.byteAt_store8 (s.store8 a _) _ _ _ h, if_pos rfl]

/-! What a store leaves in memory, and the fetch and the stack (R78 to R80). -/

theorem State.store8_stored (s : State) (a : Word) (v : Byte) : s.stored (s.store8 a v) [(a, v)] :=
  State.read_memAfterStore s a v

theorem State.store16_stored (s : State) (a w : Word) :
    s.stored (s.store16 a w) [(a, hiByte w), (a + 1, loByte w)] := by
  intro b
  rw [State.store16_mem, State.read_memAfterStore, State.store8_mem, State.read_memAfterStore]
  rfl

theorem State.pull16_fst (s : State) : s.pull16.1 = s.wordAt (s.sp + 1) := rfl

end

/-- Settles O28: a store is read back in RAM and nowhere else seen. -/
theorem ramKeepsLastStore : Obligations.RamKeepsLastStore := fun s a v =>
  ⟨fun h => by rw [State.byteAt_store8 s a a v h, if_pos rfl], fun _ => State.byteAt_store8_of_ne v,
    State.memAfterStore_of_ne_ram v, State.store8_bus .., State.load8_fst .., rfl, rfl⟩

/-- Settles O27: the two bytes lie apart, at 0xFFFF too, so the second access leaves the first alone. -/
theorem wordAccessIsBigEndian : Obligations.WordAccessIsBigEndian := by
  intro s a w hhi hlo
  have hdlo := State.ne_device_of_ram hlo
  refine ⟨?_, State.byteAt_store16_hi w hhi, State.byteAt_store16_lo w hlo, ?_, rfl,
    State.load16_snd_of_ne_device (State.ne_device_of_ram hhi) hdlo⟩
  · rw [State.wordAt_of_ne_device (s := s.store16 a w) hdlo, State.byteAt_store16_hi w hhi,
      State.byteAt_store16_lo w hlo, wordOf_bytes]
  · rw [State.store16_bus, List.append_assoc]
    rfl

/-- Settles O26: each is a load or a store with PC or SP moved; the second byte of a word lies one above the first. -/
theorem fetchPushPull : Obligations.FetchPushPull := by
  intro s v w
  have hpush : s.sp - 2 + 1 + 1 = s.sp - 2 + 2 := BitVec.add_assoc ..
  have hpull : s.sp + 1 + 1 = s.sp + 2 := BitVec.add_assoc ..
  refine ⟨⟨rfl, rfl⟩, ⟨rfl, State.store8_stored { s with sp := s.sp - 1 } _ v⟩, ⟨?_, ?_⟩, ⟨rfl, rfl⟩, rfl, rfl, ?_⟩
  · have hbus : (s.push16 w).bus = s.bus ++ [.write (s.sp - 2 + 1) (hiByte w), .write (s.sp - 2 + 2) (loByte w)] := by
      rw [← hpush]
      exact List.append_assoc ..
    rw [← hbus]
    rfl
  · rw [← hpush]
    exact State.store16_stored { s with sp := s.sp - 2 } _ w
  · rw [State.pull16_snd_bus, State.load16_snd_bus_bytes, hpull, State.pull16_fst]

end Sys2Proof.Machine
end

section
/-!
The bus transactions of an instruction and what they do to memory (20_memory.md R72, R73, R86), said once:
`exec_transacts` follows the table of R86. The statements on the bus sequence, the memory frame and the invariant read it off.
-/

namespace Sys2Proof.Machine

/-- From `s` to `t` exactly the transactions of `l` were made, in that order, and they are all that happened to memory:
bytes not written to are kept, and so is the canonical form (R72, R73, R88). -/
structure State.Transacts (s : State) (l : List Touch) (t : State) : Prop where
  bus : ∃ made : List BusAccess, t.bus = s.bus ++ made ∧ made.map touchOf = l
  mem : ∀ b : Nat, (∀ x : Word, .wr x ∈ l → x.toNat ≠ b) → Memory.read t.mem b = Memory.read s.mem b
  wf  : s.mem.wf = true → t.mem.wf = true

section
variable {s t u : State} {l l' : List Touch}

/-! No transaction, one, and one list after another. -/

/-- An operation that leaves memory and the bus alone makes no transaction. -/
theorem State.transacts_nil (hm : t.mem = s.mem) (hb : t.bus = s.bus) : s.Transacts [] t :=
  ⟨⟨[], by simp [hb]⟩, fun _ _ => by rw [hm], fun h => hm ▸ h⟩

theorem State.Transacts.trans (h : s.Transacts l t) (h' : t.Transacts l' u) : s.Transacts (l ++ l') u := by
  obtain ⟨made, hb, hl⟩ := h.bus
  obtain ⟨made', hb', hl'⟩ := h'.bus
  refine ⟨⟨made ++ made', ?_, ?_⟩, fun b hw => ?_, fun hwf => h'.wf (h.wf hwf)⟩
  · rw [hb', hb, List.append_assoc]
  · rw [List.map_append, hl, hl']
  · exact (h'.mem b fun x hx => hw x (List.mem_append_right _ hx)).trans
      (h.mem b fun x hx => hw x (List.mem_append_left _ hx))

/-- Changes outside memory and the bus may follow. -/
theorem State.Transacts.keep (h : s.Transacts l t) (hm : u.mem = t.mem) (hb : u.bus = t.bus) : s.Transacts l u :=
  List.append_nil l ▸ h.trans (State.transacts_nil hm hb)

theorem State.load8_transacts (s : State) (a : Word) : s.Transacts [.rd a] (s.load8 a).2 :=
  ⟨⟨[.read a (s.byteAt a)], rfl, rfl⟩, fun _ _ => rfl, id⟩

theorem State.store8_transacts (s : State) (a : Word) (v : Byte) : s.Transacts [.wr a] (s.store8 a v) where
  bus := ⟨[.write a v], rfl, rfl⟩
  mem b hb := by
    have hne : ¬ (b = a.toNat ∧ s.kindAt a = .ram) := fun h => hb a (List.mem_singleton_self _) h.1.symm
    rw [State.store8_mem, State.read_memAfterStore, if_neg hne]
  wf := State.store8_wf a v

/-! The shared operations. -/

theorem State.load16_transacts (s : State) (a : Word) : s.Transacts [.rd a, .rd (a + 1)] (s.load16 a).2 :=
  (s.load8_transacts a).trans (State.load8_transacts _ _)

theorem State.store16_transacts (s : State) (a v : Word) : s.Transacts [.wr a, .wr (a + 1)] (s.store16 a v) :=
  (s.store8_transacts a _).trans (State.store8_transacts _ _ _)

theorem State.readSrc8_transacts (s : State) (src : Src8) : s.Transacts (s.srcTouches8 src) (s.readSrc8 src).2 := by
  cases src
  case imm => exact State.transacts_nil rfl rfl
  all_goals exact s.load8_transacts _

theorem State.readSrc16_transacts (s : State) (src : Src16) :
    s.Transacts (s.srcTouches16 src) (s.readSrc16 src).2 := by
  cases src
  case imm => exact State.transacts_nil rfl rfl
  all_goals exact s.load16_transacts _

theorem State.push8_transacts (s : State) (v : Byte) : s.Transacts [.wr s.sp] (s.push8 v) :=
  State.push8_eq s v ▸ (s.store8_transacts s.sp v).keep rfl rfl

theorem State.push16_transacts (s : State) (v : Word) : s.Transacts [.wr (s.sp - 1), .wr s.sp] (s.push16 v) :=
  State.push16_eq s v ▸ ((s.store8_transacts (s.sp - 1) _).trans (State.store8_transacts _ s.sp _)).keep rfl rfl

theorem State.pull8_transacts (s : State) : s.Transacts [.rd (s.sp + 1)] s.pull8.2 :=
  (s.load8_transacts (s.sp + 1)).keep rfl rfl

theorem State.pull16_transacts (s : State) : s.Transacts [.rd (s.sp + 1), .rd (s.sp + 2)] s.pull16.2 := by
  have h := (s.load16_transacts (s.sp + 1)).keep (u := s.pull16.2) rfl rfl
  rwa [BitVec.add_assoc] at h

theorem State.loadVector_transacts (s : State) (v : Word) : s.Transacts [.rd v, .rd (v + 1)] (s.loadVector v) :=
  (s.load16_transacts v).keep rfl rfl

/-- An entry: two word pushes, three byte pushes, the vector load (60_exceptions.md R415). -/
theorem State.enterFrame_transacts (s : State) (v : Word) : s.Transacts (s.entryTouches v) (s.enterFrame v) := by
  have hwords := (s.push16_transacts s.pc).trans (State.push16_transacts _ s.ix)
  have haccs := (hwords.trans (State.push8_transacts _ s.a)).trans (State.push8_transacts _ s.b)
  have h (image : Byte) := ((haccs.trans (State.push8_transacts _ image)).keep (State.setI_mem _)
    (State.setI_bus _)).trans (State.loadVector_transacts _ v)
  have e1 : s.sp - 2 - 1 = s.sp - 3 := by bv_omega
  have e2 : s.sp - 2 - 2 = s.sp - 4 := by bv_omega
  have e3 : s.sp - 4 - 1 = s.sp - 5 := by bv_omega
  have e4 : s.sp - 5 - 1 = s.sp - 6 := by bv_omega
  simp only [State.push16_sp, State.push8_sp, e1, e2, e3, e4, List.cons_append, List.nil_append] at h
  exact h _

/-- A return from interrupt: three byte pulls, two word pulls (R419). -/
theorem State.returnFromInterrupt_transacts (s : State) :
    s.Transacts (touches .rti s) s.returnFromInterrupt := by
  have h := s.pull8_transacts.trans <| (State.pull8_transacts _).trans <| (State.pull8_transacts _).trans <|
    (State.pull16_transacts _).trans <| (State.pull16_transacts _).keep (u := s.returnFromInterrupt) rfl rfl
  simp only [State.pull16_snd_sp, State.pull8_snd_sp, BitVec.add_assoc] at h
  exact h

/-! The shapes. -/

section
variable {x : Acc} {mask : Cc} {src : Src8} {ref : Ref} {ea : Word}

theorem accOperate_transacts {f : Byte → Byte → Alu 8} (h : accOperate x mask f src s = .next t) :
    s.Transacts (s.srcTouches8 src) t := by
  obtain rfl := Host.Outcome.next.inj h
  cases x <;> exact (s.readSrc8_transacts src).keep rfl rfl

theorem accCompare_transacts {f : Byte → Byte → Alu 8} (h : accCompare x mask f src s = .next t) :
    s.Transacts (s.srcTouches8 src) t := by
  obtain rfl := Host.Outcome.next.inj h
  exact (s.readSrc8_transacts src).keep rfl rfl

theorem accWrite_transacts {o : Alu 8} (h : accWrite x mask o s = .next t) : s.Transacts [] t := by
  obtain rfl := Host.Outcome.next.inj h
  cases x <;> exact State.transacts_nil rfl rfl

theorem memOperate_transacts {f : Byte → Alu 8} (h : memOperate mask f ref s = .next t) :
    s.Transacts [.rd (s.refAddr ref), .wr (s.refAddr ref)] t := by
  obtain rfl := Host.Outcome.next.inj h
  exact ((s.load8_transacts _).trans (State.store8_transacts _ _ _)).keep rfl rfl

theorem storeByte_transacts {o : Alu 8} (h : storeByte ea mask o s = .next t) : s.Transacts [.wr ea] t := by
  obtain rfl := Host.Outcome.next.inj h
  exact (s.store8_transacts _ _).keep rfl rfl

theorem storeWord_transacts {v : Word} (h : storeWord ea v s = .next t) :
    s.Transacts [.wr ea, .wr (ea + 1)] t := by
  obtain rfl := Host.Outcome.next.inj h
  exact (s.store16_transacts _ _).keep rfl rfl

theorem branchOn_transacts {k : BranchCond} {off : Byte} (h : branchOn k off s = .next t) : s.Transacts [] t := by
  obtain rfl := Host.Outcome.next.inj h
  split <;> exact State.transacts_nil rfl rfl

theorem callTo_transacts {target : Word} (h : callTo target s = .next t) :
    s.Transacts [.wr (s.sp - 1), .wr s.sp] t := by
  obtain rfl := Host.Outcome.next.inj h
  exact (s.push16_transacts _).keep rfl rfl

end

/-- Every instruction makes the transactions of its row of the table (R86), and they are all it does to memory. -/
theorem exec_transacts {i : Instr} (h : exec i s = .next t) : s.Transacts (touches i s) t := by
  cases i <;> rw [exec] at h
  case ldaa | adda | adca | suba | sbca | anda | oraa | eora | ldab | addb | adcb | subb | sbcb | andb | orab | eorb =>
    exact accOperate_transacts h
  case cmpa | cmpb | bita | bitb => exact accCompare_transacts h
  case tba | clra | aba | sba | nega | inca | deca | daa | coma | asla | asra | lsra | rola | rora
      | tab | clrb | negb | incb | decb | comb | aslb | asrb | lsrb | rolb | rorb =>
    exact accWrite_transacts h
  case neg | inc | dec | com | asl | asr | lsr | rol | ror => exact memOperate_transacts h
  case staa | stab | clr => exact storeByte_transacts h
  case stx | sts => exact storeWord_transacts h
  case bra | bhi | bls | bcc | bcs | bne | beq | bvc | bvs | bpl | bmi | bge | blt | bgt | ble =>
    exact branchOn_transacts h
  case bsr | jsr => exact callTo_transacts h
  all_goals obtain rfl := Host.Outcome.next.inj h
  case ldx src | lds src | cpx src => exact (s.readSrc16_transacts src).keep rfl rfl
  case tst ref => exact (s.load8_transacts _).keep rfl rfl
  case psha | pshb => exact s.push8_transacts _
  case pula | pulb => exact s.pull8_transacts.keep rfl rfl
  case rts => exact s.pull16_transacts.keep rfl rfl
  case swi => exact s.enterFrame_transacts _
  case rti => exact s.returnFromInterrupt_transacts
  all_goals exact State.transacts_nil rfl rfl

end

/-- The address a transaction writes to, if it is a write. -/
def Touch.written : Touch → Option Word
  | .rd _ => none
  | .wr addr => some addr

/-- The stores of an instruction are the writes in its row of the table, in that order. -/
theorem storedAddrs_eq_written (i : Instr) (s : State) :
    storedAddrs i s = (touches i s).filterMap Touch.written := by
  cases i
  case ldaa src | ldab src | adda src | addb src | adca src | adcb src | suba src | subb src | sbca src | sbcb src
      | cmpa src | cmpb src | anda src | andb src | bita src | bitb src | oraa src | orab src | eora src | eorb src =>
    cases src <;> rfl
  case ldx src | lds src | cpx src => cases src <;> rfl
  all_goals rfl

theorem mem_storedAddrs_of_wr {i : Instr} {s : State} {x : Word} (h : .wr x ∈ touches i s) : x ∈ storedAddrs i s :=
  storedAddrs_eq_written i s ▸ List.mem_filterMap.2 ⟨.wr x, h, rfl⟩

/-- Settles O57: the transactions of `exec_transacts`. -/
theorem busSequence : Obligations.BusSequence := fun _ _ _ h => (exec_transacts h).bus

/-- Settles O53: the memory part of `exec_transacts`; outside device windows the bus shows memory. -/
theorem memoryFrame : Obligations.MemoryFrame := by
  intro i s t h
  have hmem : ∀ b : Nat, (∀ x ∈ storedAddrs i s, x.toNat ≠ b) → Memory.read t.mem b = Memory.read s.mem b :=
    fun b hb => (exec_transacts h).mem b fun x hx => hb x (mem_storedAddrs_of_wr hx)
  refine ⟨hmem, fun b hb hk => ?_⟩
  obtain ⟨-, -, -, -, -, -, -, hconfig, -, -⟩ := controlStateFrame i s t h
  have hkt : t.kindAt b ≠ .device := by rwa [State.kindAt_congr hconfig]
  rw [State.byteAt_of_ne_device hkt, State.byteAt_of_ne_device hk]
  exact hmem _ fun x hx he => hb (BitVec.eq_of_toNat_eq he ▸ hx)

end Sys2Proof.Machine
end

section
/-!
The invariant of the block's states (20_memory.md R70, 70_reset_and_hazards.md R460), by the kind of the step.
-/

namespace Sys2Proof.Machine

section
variable {s t : State}

/-- Under the invariant a block that is not Off has been powered on. -/
theorem State.Inv.poweredOnce (h : s.Inv) (hr : s.run ≠ .off) : s.poweredOnce = true := h.2.resolve_left hr

/-- The invariant speaks of memory, the run state and the power history only. -/
theorem State.Inv.of_powered (h : s.Inv) (hr : s.run ≠ .off) (hm : s.mem.wf = true → t.mem.wf = true)
    (hp : t.poweredOnce = s.poweredOnce) : t.Inv :=
  ⟨hm h.1, .inr (hp.trans (h.poweredOnce hr))⟩

/-- The first powerOn leaves its trace (R460). -/
theorem State.powerOn_poweredOnce (h : s.run = .off) : s.powerOn.poweredOnce = true := by
  simp only [State.powerOn, if_pos h, State.setI_poweredOnce, State.loadVector_poweredOnce, State.initRegisters]
  split
  next hp => exact hp
  next => rfl

/-- No host interaction leaves a block that is not Off without having been powered on. -/
theorem State.hostAction_inv (act : HostAction) (h : s.Inv) : (s.hostAction act).Inv := by
  refine ⟨State.hostAction_wf act h.1, ?_⟩
  cases act
  case powerOn =>
    by_cases ho : s.run = .off
    · exact .inr (State.powerOn_poweredOnce ho)
    · exact .inr ((congrArg State.poweredOnce (State.powerOn_of_ne_off ho)).trans (h.poweredOnce ho))
  case powerOff => exact .inl rfl
  case cancelWait =>
    simp only [State.hostAction]
    split
    · exact .inl rfl
    · exact h.2
  all_goals exact h.2

/-- The reset action keeps memory and the power history (R463). -/
theorem State.resetAction_inv (r : RunState) (hm : s.mem.wf = true) (hp : s.poweredOnce = true) :
    State.Inv { s.resetAction with run := r } := by
  have hmem : s.resetAction.mem = s.mem := rfl
  have honce : s.resetAction.poweredOnce = s.poweredOnce := rfl
  exact ⟨hmem ▸ hm, .inr (honce.trans hp)⟩

/-- An entry into an interrupt keeps the canonical form of memory and the power history. -/
theorem State.enterFrame_inv (v : Word) (hm : s.mem.wf = true) (hp : s.poweredOnce = true) : (s.enterFrame v).Inv :=
  ⟨State.enterFrame_wf v hm, .inr ((State.enterFrame_poweredOnce s v).trans hp)⟩

/-- An instruction keeps the canonical form of memory and the power history. -/
theorem exec_inv {i : Instr} (h : exec i s = .next t) (hs : s.Inv) (hr : s.run ≠ .off) : t.Inv := by
  obtain ⟨-, -, -, -, -, honce, -⟩ := controlStateFrame i s t h
  exact hs.of_powered hr (exec_transacts h).wf honce

end

/-- Settles O17: by the kind of the step; each keeps memory canonical and leaves no block on that was never powered on. -/
theorem stepKeepsInvariant : Obligations.StepKeepsInvariant := by
  intro s t hs h
  cases step_stepsTo h with
  | host act => exact State.hostAction_inv act hs
  | idle => exact hs
  | halt hm hr =>
    have hne : s.run ≠ .off := by rcases hr with hr | ⟨hr, -⟩ <;> simp [hr]
    exact hs.of_powered hne id rfl
  | nmi hm hr | irq hm hr =>
    have hne : s.run ≠ .off := by rcases hr with hr | hr <;> simp [hr]
    exact State.enterFrame_inv _ hs.1 (hs.poweredOnce hne)
  | instr hm hr hq he =>
    rw [State.fetchInstr_snd] at he
    exact exec_inv he hs (by simp [hr])
  | resume hm hr => exact hs.of_powered (by simp [hr]) id rfl
  | reset hm hr => exact State.resetAction_inv (s := s.atMove) .running hs.1 (hs.poweredOnce (by simp [hr]))

end Sys2Proof.Machine
end

section
/-!
The decoder and the encoder as inverses of each other, and the instruction a step runs (30_encoding.md R100 to R102, R120,
R122, R127). Every opcode begins the encoding of some instruction, so what holds of every cell of the grid is proved
instruction by instruction.
-/

namespace Sys2Proof.Machine

/-! The decoder, by the number of operand bytes of the opcode (R102). -/

theorem operandBytes_cases (F : Form) : F.operandBytes = 0 ∨ F.operandBytes = 1 ∨ F.operandBytes = 2 := by
  cases F <;> simp [Form.operandBytes]

section
variable {op : Byte} {i : Instr} {bytes rest : List Byte}

/-- With its operand bytes there, an opcode decodes, and the decoder leaves what comes after them. -/
theorem decode_of_le (h : (formOf op).operandBytes ≤ rest.length) :
    ∃ i, decode (op :: rest) = .ok i (rest.drop (formOf op).operandBytes) := by
  rcases operandBytes_cases (formOf op) with hn | hn | hn <;> rw [hn] at h ⊢
  · exact ⟨_, decode_form0 rest rfl hn⟩
  · match rest, h with
    | b1 :: rest, _ => exact ⟨_, decode_form1 rest rfl hn⟩
  · match rest, h with
    | b1 :: b2 :: rest, _ => exact ⟨_, decode_form2 rest rfl hn⟩

/-- With fewer bytes it is refused by name. -/
theorem decode_of_lt (h : rest.length < (formOf op).operandBytes) :
    decode (op :: rest) = .rejected (.missingOperand op) := by
  rcases operandBytes_cases (formOf op) with hn | hn | hn <;> rw [hn] at h
  · cases h
  · obtain rfl := List.length_eq_zero_iff.1 (Nat.lt_one_iff.1 h)
    simp only [decode, hn]
  · match rest, h with
    | [], _ => simp only [decode, hn]
    | [_], _ => simp only [decode, hn]

/-- What is read is the opcode, the bytes of its operand and what is left. -/
theorem length_of_decode (h : decode (op :: bytes) = .ok i rest) :
    bytes.length = (formOf op).operandBytes + rest.length := by
  by_cases hle : (formOf op).operandBytes ≤ bytes.length
  · obtain ⟨j, hj⟩ := decode_of_le hle
    obtain ⟨-, rfl⟩ := Decoded.ok.inj (hj.symm.trans h)
    rw [List.length_drop]
    omega
  · rw [decode_of_lt (Nat.lt_of_not_le hle)] at h
    cases h

end

/-! The grid, cell by cell (R120). -/

/-- The operand bytes of a format, as the encoder writes what `Form.build` made of two bytes (R101). -/
def operandsOf : Form → Byte → Byte → List Byte
  | .inh _, _, _ => []
  | .imm8 _, b1, _ | .dir _, b1, _ | .idx _, b1, _ | .rel _, b1, _ => [b1]
  | .imm16 _, b1, b2 | .ext _, b1, b2 => [hiByte (wordOf b1 b2), loByte (wordOf b1 b2)]

theorem operandsOf_eq (F : Form) (b1 b2 : Byte) : operandsOf F b1 b2 = [b1, b2].take F.operandBytes := by
  cases F <;> simp [operandsOf, Form.operandBytes]

/-- Every opcode is that of a well-formed instruction, so what holds of the opcode of each holds of all. -/
theorem opcode_induction {P : Byte → Prop}
    (encoded : ∀ (i : Instr) (op : Byte) (rest : List Byte), i.wellFormed = true → encode i = op :: rest → P op)
    (op : Byte) : P op := by
  have hop : ((formOf op).build 0 0).wellFormed = true ∧ (encode ((formOf op).build 0 0)).head? = some op := by
    revert op; decide
  obtain ⟨hwf, hhead⟩ := hop
  obtain ⟨rest, he⟩ := List.head?_eq_some_iff.1 hhead
  exact encoded _ op rest hwf he

/-- What a cell gives is well formed and is written as the opcode of the cell and the operand bytes read. -/
theorem encode_build (op b1 b2 : Byte) :
    ((formOf op).build b1 b2).wellFormed = true ∧
      encode ((formOf op).build b1 b2) = op :: [b1, b2].take (formOf op).operandBytes := by
  rw [← operandsOf_eq]
  induction op using opcode_induction with
  | encoded i op rest hwf he =>
  cases i
  case illegal op =>
    cases he
    rw [formOf_illegal op (List.contains_iff_mem.1 hwf)]
    exact ⟨hwf, rfl⟩
  case ldaa src | ldab src | adda src | addb src | adca src | adcb src | suba src | subb src | sbca src | sbcb src
      | cmpa src | cmpb src | anda src | andb src | bita src | bitb src | oraa src | orab src | eora src | eorb src
      | ldx src | lds src | cpx src =>
    cases src <;> cases he <;> exact ⟨rfl, rfl⟩
  case staa dst | stab dst | stx dst | sts dst =>
    cases dst <;> cases he <;> exact ⟨rfl, rfl⟩
  case clr ref | neg ref | inc ref | dec ref | tst ref | com ref | asl ref | asr ref | lsr ref | rol ref | ror ref
      | jmp ref | jsr ref =>
    cases ref <;> cases he <;> exact ⟨rfl, rfl⟩
  all_goals cases he; exact ⟨rfl, rfl⟩

/-- The encoder writes back what the decoder read. -/
theorem encode_of_decode {bytes rest : List Byte} {i : Instr} (h : decode bytes = .ok i rest) :
    i.wellFormed = true ∧ encode i ++ rest = bytes := by
  cases bytes with
  | nil => cases h
  | cons op bytes =>
    simp only [decode] at h
    split at h
    case h_4 => cases h
    all_goals
      next hn =>
        obtain ⟨rfl, rfl⟩ := Decoded.ok.inj h
        simp [encode_build, hn]

/-! The fetch of an instruction, from RAM, ROM or a device (20_memory.md R78). -/

section
variable {s : State} {op : Byte} {i : Instr}

theorem State.fetchOperands_of_decode1 (h : decode [op] = .ok i []) : s.fetchOperands op = (i, s) := by
  have hn : (formOf op).operandBytes = 0 := (length_of_decode h).symm
  obtain ⟨rfl, -⟩ := Decoded.ok.inj ((decode_form0 [] rfl hn).symm.trans h)
  simp only [State.fetchOperands, hn]

theorem State.fetchOperands_of_decode2 (h : decode [op, s.fetch8.1] = .ok i []) :
    s.fetchOperands op = (i, s.fetch8.2) := by
  have hn : (formOf op).operandBytes = 1 := (length_of_decode h).symm
  obtain ⟨rfl, -⟩ := Decoded.ok.inj ((decode_form1 [] rfl hn).symm.trans h)
  simp only [State.fetchOperands, hn]

theorem State.fetchOperands_of_decode3 (h : decode [op, s.fetch8.1, s.fetch8.2.fetch8.1] = .ok i []) :
    s.fetchOperands op = (i, s.fetch8.2.fetch8.2) := by
  have hn : (formOf op).operandBytes = 2 := (length_of_decode h).symm
  obtain ⟨rfl, -⟩ := Decoded.ok.inj ((decode_form2 [] rfl hn).symm.trans h)
  simp only [State.fetchOperands, hn]

end

/-- A running block with nothing pending runs the instruction it fetches (60_exceptions.md R410). -/
theorem step_of_quiet {s : State} (hm : s.blockMoves) (hr : s.run = .running) (hq : s.quiet) :
    step s = s.atMove.runInstr := by
  rw [step_of_block hm, State.blockStep, State.atMove_run, hr]
  exact State.stepRunning_of_quiet hq

/-- An instruction runs as it was fetched (30_encoding.md R127). -/
theorem State.runInstr_of_fetchOperands {s t : State} {i : Instr}
    (h : s.fetch8.2.fetchOperands s.fetch8.1 = (i, t)) : s.runInstr = exec i t := by
  have hrun : s.runInstr = exec (s.fetch8.2.fetchOperands s.fetch8.1).1 (s.fetch8.2.fetchOperands s.fetch8.1).2 := rfl
  rw [hrun, h]

/-- Settles O1: `decode_encode`. -/
theorem encodeThenDecode : Obligations.EncodeThenDecode := fun _ rest h => decode_encode rest h

/-- Settles O2: by the number of operand bytes read, from the cell of the opcode. -/
theorem decodeThenEncode : Obligations.DecodeThenEncode := fun _ _ _ h => encode_of_decode h

/-- Settles O3: the decoder refuses an opcode exactly when operand bytes are missing. -/
theorem everyOpcodeDecodes : Obligations.EveryOpcodeDecodes := by
  intro op rest
  simp only [opcodeLength, Nat.add_sub_cancel_left]
  refine ⟨?_, fun h => decode_of_le (by omega), fun h => decode_of_lt (by omega)⟩
  rcases operandBytes_cases (formOf op) with hn | hn | hn <;> simp [hn]

/-- Settles O7: the operand bytes of the opcode are fetched where the decoder reads them. -/
theorem stepRunsDecodedInstruction : Obligations.StepRunsDecodedInstruction := by
  intro s i hm hr hq
  rw [step_of_quiet hm hr hq]
  exact ⟨fun h => State.runInstr_of_fetchOperands (State.fetchOperands_of_decode1 h),
    fun h => State.runInstr_of_fetchOperands (State.fetchOperands_of_decode2 h),
    fun h => State.runInstr_of_fetchOperands (State.fetchOperands_of_decode3 h)⟩

end Sys2Proof.Machine
end

section
/-!
The descriptor table against the instruction rules (30_encoding.md R102 to R119, R126, R127): every row, executed, does
what the rule of its opcode's instruction says.
-/

namespace Sys2Proof.Machine

/-! The table holds no malformed row, and the rows of the illegal opcodes are the sentinel's (R117 to R119). -/

theorem descriptorOf_legal (op : Byte) : (descriptorOf op).legal = true := by
  revert op; decide

theorem descriptorOf_illegal : ∀ op ∈ illegalOpcodes, descriptorOf op = illegalDescriptor := by
  decide

/-- The effective address of a descriptor and the state after the resolver, at the width of its kind (R108, R115). -/
def Descriptor.resolved (d : Descriptor) (s : State) : Word × State :=
  s.resolve d.mode (if d.kind.is16 then 2 else 1)

section
variable {d : Descriptor} {op : Byte} {ea : Word} {s : State}

theorem Descriptor.execute_of_legal (h : d.legal = true) :
    d.execute op s = d.operate op (d.resolved s).1 (d.resolved s).2 := if_pos h

/-- The operation of a kind always ends in a next state. -/
theorem Descriptor.operate_next (d : Descriptor) (op : Byte) (ea : Word) (s : State) :
    ∃ t, d.operate op ea s = .next t := by
  obtain ⟨kind⟩ := d
  cases kind <;> exact ⟨_, rfl⟩

/-- PC is past an immediate word as after two fetches (R109). -/
theorem Descriptor.resolved_immediate16 (hm : d.mode = .immediate) (hk : d.kind.is16 = true) :
    d.resolved s = (s.pc, { s with pc := s.pc + 1 + 1 }) := by
  rw [Descriptor.resolved, hm, hk, BitVec.add_assoc]
  rfl

/-! The kinds with a carry-in: the select bits of the descriptor pick it out of CC (R103). -/

theorem flagC_and (x y : Cc) : flagC (x &&& y) = (flagC x && flagC y) := BitVec.getLsbD_and

theorem flagH_and (x y : Cc) : flagH (x &&& y) = (flagH x && flagH y) := BitVec.getLsbD_and

theorem Descriptor.operate_add (hk : d.kind = .add) :
    d.operate op ea s = d.binary8 ea (fun x y => add8 x y (flagC d.select && flagC s.cc)) s := by
  simp only [Descriptor.operate, hk, flagC_and]

theorem Descriptor.operate_sub (hk : d.kind = .sub) :
    d.operate op ea s = d.binary8 ea (fun x y => sub8 x y (flagC d.select && flagC s.cc)) s := by
  simp only [Descriptor.operate, hk, flagC_and]

theorem Descriptor.operate_rol (hk : d.kind = .rol) :
    d.operate op ea s = d.unary8 ea (fun x => rol8 x (flagC d.select && flagC s.cc)) s := by
  simp only [Descriptor.operate, hk, flagC_and]

theorem Descriptor.operate_ror (hk : d.kind = .ror) :
    d.operate op ea s = d.unary8 ea (fun x => ror8 x (flagC d.select && flagC s.cc)) s := by
  simp only [Descriptor.operate, hk, flagC_and]

theorem Descriptor.operate_daa (hk : d.kind = .daa) :
    d.operate op ea s =
      d.unary8 ea (fun x => daa8 s.config.daaVNoCorr x (flagH d.select && flagH s.cc) (flagC d.select && flagC s.cc)
        (flagV s.cc)) s := by
  simp only [Descriptor.operate, hk, flagC_and, flagH_and]

/-! The rows with an empty mask: the flags stay, and only the destination is written (R127). -/

theorem State.setFlags_none (s : State) (new : Cc) : s.setFlags 0 new = s := by
  simp [State.setFlags]

theorem Descriptor.operate_move8_of_affected_none (hk : d.kind = .move8) (ha : d.affected = 0) :
    d.operate op ea s = .next ((s.loadLoc8 ea d.src1).2.storeLoc8 ea (s.loadLoc8 ea d.src1).1 d.dst) := by
  simp only [Descriptor.operate, hk, Descriptor.unary8, Descriptor.finish8, ha, State.setFlags_none]
  rfl

theorem Descriptor.finish16_of_affected_none (ha : d.affected = 0) (o : Alu 16) :
    d.finish16 ea o s = .next (s.storeLoc16 ea o.r d.dst) := by
  simp only [Descriptor.finish16, ha, State.setFlags_none]

end

/-! With `TSX_TXS_ADJUST = 1` TSX and TXS add and subtract ConstantOne (41_load_store_transfer.md R213, R214). -/

theorem execTsx_of_adjust_one {s : State} (h : s.config.tsxTxsAdjust = 1) :
    execTsx s = .next { s with ix := s.sp + 1 } := by
  simp [execTsx, State.tsxTxsAdjust, h]

theorem execTxs_of_adjust_one {s : State} (h : s.config.tsxTxsAdjust = 1) :
    execTxs s = .next { s with sp := s.ix - 1 } := by
  simp [execTxs, State.tsxTxsAdjust, h]

/-- Row by row. Resolving and loading a memory operand is fetching its bytes and reading it, and a row names the registers,
the operation and the mask of its instruction's shape, so most rows compute to the rule. The named lemmas are for the rows
with a carry-in, an immediate word or an empty mask. -/
theorem operate_descriptorOf (op : Byte) {s : State} (hs : s.config.tsxTxsAdjust = 1 ∨ (op ≠ 0x30 ∧ op ≠ 0x35)) :
    (descriptorOf op).operate op ((descriptorOf op).resolved s).1 ((descriptorOf op).resolved s).2 =
      exec (s.fetchOperands op).1 (s.fetchOperands op).2 := by
  induction op using opcode_induction with
  | encoded i op rest hwf he =>
  cases i
  case illegal =>
    cases he
    have hop : op ∈ illegalOpcodes := List.contains_iff_mem.1 hwf
    simp only [descriptorOf_illegal op hop, State.fetchOperands, formOf_illegal op hop]
    rfl
  case adda src | addb src | adca src | adcb src => cases src <;> cases he <;> exact Descriptor.operate_add rfl
  case inc ref => cases ref <;> cases he <;> exact Descriptor.operate_add rfl
  case aba | inca | incb => cases he; exact Descriptor.operate_add rfl
  case suba src | subb src | sbca src | sbcb src | cmpa src | cmpb src =>
    cases src <;> cases he <;> exact Descriptor.operate_sub rfl
  case dec ref | tst ref => cases ref <;> cases he <;> exact Descriptor.operate_sub rfl
  case sba | cba | deca | decb | tsta | tstb => cases he; exact Descriptor.operate_sub rfl
  case rol ref => cases ref <;> cases he <;> exact Descriptor.operate_rol rfl
  case rola | rolb => cases he; exact Descriptor.operate_rol rfl
  case ror ref => cases ref <;> cases he <;> exact Descriptor.operate_ror rfl
  case rora | rorb => cases he; exact Descriptor.operate_ror rfl
  case daa => cases he; exact Descriptor.operate_daa rfl
  case ldx src | lds src | cpx src =>
    cases src <;> cases he
    case imm => rw [Descriptor.resolved_immediate16 rfl rfl]; rfl
    all_goals rfl
  case tpa | psha | pshb | pula | pulb => cases he; exact Descriptor.operate_move8_of_affected_none rfl rfl
  case ins | des => cases he; exact Descriptor.finish16_of_affected_none rfl _
  case tsx =>
    cases he
    have hadj := hs.resolve_right fun h => h.1 rfl
    exact (Descriptor.finish16_of_affected_none rfl _).trans (execTsx_of_adjust_one hadj).symm
  case txs =>
    cases he
    have hadj := hs.resolve_right fun h => h.2 rfl
    exact (Descriptor.finish16_of_affected_none rfl _).trans (execTxs_of_adjust_one hadj).symm
  case ldaa src | ldab src | anda src | andb src | bita src | bitb src | oraa src | orab src | eora src | eorb src =>
    cases src <;> cases he <;> rfl
  case staa dst | stab dst | stx dst | sts dst => cases dst <;> cases he <;> rfl
  case clr ref | neg ref | com ref | asl ref | asr ref | lsr ref | jmp ref | jsr ref =>
    cases ref <;> cases he <;> rfl
  all_goals cases he; rfl

/-- Settles O6: the table is legal, so the descriptor operates, and it does what `operate_descriptorOf` says. -/
theorem descriptorMatchesInstruction : Obligations.DescriptorMatchesInstruction := by
  intro s
  have hrun : s.runDescriptor = _ := Descriptor.execute_of_legal (s := s.fetch8.2) (descriptorOf_legal s.fetch8.1)
  rw [hrun]
  exact ⟨Descriptor.operate_next _ _ _ _, operate_descriptorOf (s.byteAt s.pc) (s := s.fetch8.2)⟩

end Sys2Proof.Machine
end

section
/-!
The 8-bit ALU (40_alu.md sections 2 and 4). An addition's carry out of a bit is the library's `BitVec.carry`; a subtraction
is the addition of the complement with the carry inverted, so its truth table follows from the addition's.
-/

namespace Sys2Proof.Machine

/-- The flags an operation packs, N and Z read off its result (R141, R143, R150). -/
theorem ccIs_packCc_result (h i v c : Bool) (r : Byte) :
    ccIs (packCc h i r.msb (r == 0) v c) h i (r.getLsbD 7) (decide (r = 0)) v c := by
  simp [ccIs, BitVec.msb_eq_getLsbD_last, beq_eq_decide]

/-- Bit 7 of a byte is its sign (R164). -/
theorem getLsbD_seven (x : Byte) : x.getLsbD 7 = decide (x.toInt < 0) := by
  rw [← BitVec.msb_eq_toInt, BitVec.msb_eq_getLsbD_last]

/-- The complement of a byte, read as two's complement (R164). -/
theorem toInt_not_byte (x : Byte) : (~~~x).toInt = -1 - x.toInt := by
  simp only [BitVec.toInt_eq_toNat_cond, BitVec.toNat_not]
  omega

/-! The truth table of an addition (R142). -/

/-- The carry out of bit `i` by bit `i` of both operands and of the sum: the carry C and H of the truth table. -/
theorem carry_succ_eq_of_sum_bit {w i : Nat} {x y r : BitVec w} {c : Bool} (hi : i < w)
    (hr : r = x + y + BitVec.setWidth w (BitVec.ofBool c)) :
    BitVec.carry (i + 1) x y c =
      ((x.getLsbD i && y.getLsbD i) || (x.getLsbD i && !r.getLsbD i) || (y.getLsbD i && !r.getLsbD i)) := by
  rw [hr, BitVec.carry_succ, BitVec.getLsbD_add_add_bool hi]
  generalize x.getLsbD i = p, y.getLsbD i = q, BitVec.carry i x y c = k
  revert p q k
  decide

section
variable (a b : Byte) (cin : Bool)

theorem add8_r : (add8 a b cin).r = a + b + BitVec.setWidth 8 (BitVec.ofBool cin) := by
  apply BitVec.eq_of_toNat_eq
  cases cin <;> simp [add8]

theorem toNat_add8 : (add8 a b cin).r.toNat = (a.toNat + b.toNat + cin.toNat) % 256 := rfl

/-- The flags of the sum on unbounded integers, as R141 gives them. -/
theorem ccIs_add8 :
    ccIs (add8 a b cin).new (decide (a.toNat % 16 + b.toNat % 16 + cin.toNat > 15)) false
      ((add8 a b cin).r.getLsbD 7) (decide ((add8 a b cin).r = 0))
      (decide (a.toInt + b.toInt + cin.toNat < -128 ∨ a.toInt + b.toInt + cin.toNat > 127))
      (decide (a.toNat + b.toNat + cin.toNat > 255)) := by
  rw [Bool.decide_or]
  exact ccIs_packCc_result ..

theorem flagC_add8 : flagC (add8 a b cin).new = BitVec.carry 8 a b cin := by
  obtain ⟨-, -, -, -, -, hc⟩ := ccIs_add8 a b cin
  rw [hc, BitVec.carry, Nat.mod_eq_of_lt a.isLt, Nat.mod_eq_of_lt b.isLt]
  rfl

theorem flagH_add8 : flagH (add8 a b cin).new = BitVec.carry 4 a b cin := by
  obtain ⟨hh, -⟩ := ccIs_add8 a b cin
  exact hh

/-- The sum leaves the signed range exactly when both operands have one sign and the result the other. -/
theorem flagV_add8 :
    flagV (add8 a b cin).new =
      ((a.getLsbD 7 && b.getLsbD 7 && !(add8 a b cin).r.getLsbD 7) ||
        (!a.getLsbD 7 && !b.getLsbD 7 && (add8 a b cin).r.getLsbD 7)) := by
  obtain ⟨-, -, -, -, hv, -⟩ := ccIs_add8 a b cin
  have hr : (add8 a b cin).r.toInt = (a.toInt + b.toInt + cin.toNat).bmod 256 := by
    cases cin <;> simp [add8_r, BitVec.toInt_add]
  rw [hv, getLsbD_seven, getLsbD_seven, getLsbD_seven, hr, Bool.eq_iff_iff]
  have ha := BitVec.le_toInt a
  have ha' := BitVec.toInt_lt (x := a)
  have hb := BitVec.le_toInt b
  have hb' := BitVec.toInt_lt (x := b)
  have hc := cin.toNat_le
  simp only [Int.bmod, Bool.or_eq_true, Bool.and_eq_true, Bool.not_eq_true', decide_eq_true_eq, decide_eq_false_iff_not]
  omega

end

/-- Settles O21: R141 is the definition, C and H are carries, and V follows from the signs. -/
theorem addEightIsExact : Obligations.AddEightIsExact := by
  intro a b cin
  have hr := add8_r a b cin
  exact ⟨toNat_add8 a b cin, ccIs_add8 a b cin,
    (flagC_add8 a b cin).trans (carry_succ_eq_of_sum_bit (by decide) hr),
    flagV_add8 a b cin,
    (flagH_add8 a b cin).trans (carry_succ_eq_of_sum_bit (by decide) hr)⟩

/-! A subtraction is the addition of the complement, with carry and borrow inverted (R143). -/

section
variable (a b : Byte) (cin : Bool)

theorem sub8_r_eq_add8_not : (sub8 a b cin).r = (add8 a (~~~b) (!cin)).r := by
  apply BitVec.eq_of_toNat_eq
  rw [toNat_add8, BitVec.toNat_not]
  cases cin <;> simp [sub8] <;> omega

/-- The flags of the difference on unbounded integers, as R143 gives them. -/
theorem ccIs_sub8 :
    ccIs (sub8 a b cin).new false false ((sub8 a b cin).r.getLsbD 7) (decide ((sub8 a b cin).r = 0))
      (decide (a.toInt - b.toInt - cin.toNat < -128 ∨ a.toInt - b.toInt - cin.toNat > 127))
      (decide (a.toNat < b.toNat + cin.toNat)) := by
  rw [Bool.decide_or]
  exact ccIs_packCc_result ..

theorem toNat_sub8 : ((sub8 a b cin).r.toNat : Int) = ((a.toNat : Int) - b.toNat - cin.toNat) % 256 := by
  have hmod : 0 ≤ ((a.toNat : Int) - b.toNat - cin.toNat) % 256 := Int.emod_nonneg _ (by decide)
  simp [sub8, hmod]

theorem flagC_sub8_eq_add8_not : flagC (sub8 a b cin).new = !flagC (add8 a (~~~b) (!cin)).new := by
  obtain ⟨-, -, -, -, -, hsub⟩ := ccIs_sub8 a b cin
  obtain ⟨-, -, -, -, -, hadd⟩ := ccIs_add8 a (~~~b) (!cin)
  rw [hsub, hadd, BitVec.toNat_not, ← decide_not, decide_eq_decide]
  cases cin <;> simp <;> omega

theorem flagV_sub8_eq_add8_not : flagV (sub8 a b cin).new = flagV (add8 a (~~~b) (!cin)).new := by
  obtain ⟨-, -, -, -, hsub, -⟩ := ccIs_sub8 a b cin
  obtain ⟨-, -, -, -, hadd, -⟩ := ccIs_add8 a (~~~b) (!cin)
  have hsum : a.toInt - b.toInt - cin.toNat = a.toInt + (~~~b).toInt + (!cin).toNat := by
    rw [toInt_not_byte]
    cases cin <;> simp <;> omega
  rw [hsub, hadd, hsum]

end

/-- Settles O22: R143 is the definition, and the truth table is the addition's at the complement. -/
theorem subEightIsExact : Obligations.SubEightIsExact := by
  intro a b cin
  have hnot : (~~~b).getLsbD 7 = !b.getLsbD 7 := by simp
  obtain ⟨-, -, hC, hV, -⟩ := addEightIsExact a (~~~b) (!cin)
  rw [← flagV_sub8_eq_add8_not, ← sub8_r_eq_add8_not, hnot] at hV
  rw [← sub8_r_eq_add8_not, hnot] at hC
  refine ⟨toNat_sub8 a b cin, ccIs_sub8 a b cin, ?_, ?_⟩
  · rw [flagC_sub8_eq_add8_not, hC]
    generalize a.getLsbD 7 = p, b.getLsbD 7 = q, (sub8 a b cin).r.getLsbD 7 = r
    revert p q r
    decide
  · rw [hV, Bool.not_not]

/-! Shifts and rotates: C takes the bit shifted out (R150). -/

theorem ccIs_shift8 (r : Byte) (out : Bool) :
    ccIs (shift8 r out).new false false (r.getLsbD 7) (decide (r = 0)) (r.getLsbD 7 ^^ out) out := by
  rw [← BitVec.msb_eq_getLsbD_last r]
  exact ccIs_packCc_result ..

theorem ccIs_lsr8 (a : Byte) :
    ccIs (lsr8 a).new false false false (decide ((lsr8 a).r = 0)) (a.getLsbD 0) (a.getLsbD 0) := by
  have hN : (a >>> 1).getLsbD 7 = false := by simp
  have hflags := ccIs_shift8 (a >>> 1) (a.getLsbD 0)
  rwa [hN, Bool.false_xor] at hflags

/-- Settles O23: each is `shift8` of its result and the bit it shifts out. -/
theorem shiftsMoveOneBit : Obligations.ShiftsMoveOneBit := by
  intro a cin
  have hasl : (asl8 a).r.toNat = a.toNat * 2 % 256 := by simp [asl8, shift8, Nat.shiftLeft_eq]
  have hlsr : (lsr8 a).r.toNat = a.toNat / 2 := by simp [lsr8, shift8, Nat.shiftRight_eq_div_pow]
  exact ⟨⟨hasl, ccIs_shift8 ..⟩, ⟨hlsr, ccIs_lsr8 a⟩, ⟨rfl, ccIs_shift8 ..⟩, ⟨rfl, ccIs_shift8 ..⟩,
    ccIs_shift8 .., by decide⟩

end Sys2Proof.Machine
end

section
/-!
Loads, stores, transfers and clears (41_load_store_transfer.md): what the shapes they share answer, the flags of a move
under either mask, and from these the family's six statements.
-/

namespace Sys2Proof.Machine

/-! The flags of a move (40_alu.md R147, R161), merged under the masks the family uses. -/

section
variable {old new : Cc} {h i n z v c : Bool}

/-- A merge under `{N,Z,V}` takes these three flags from the new value. -/
theorem ccIs_setCc_maskNZV (hnew : ccIs new h i n z v c) :
    ccIs (setCc old maskNZV new) (flagH old) (flagI old) n z v (flagC old) := by
  obtain ⟨-, -, rfl, rfl, rfl, -⟩ := hnew
  exact ccIs_setCc old maskNZV new

/-- A merge under `{N,Z,V,C}` takes these four flags from the new value. -/
theorem ccIs_setCc_maskNZVC (hnew : ccIs new h i n z v c) :
    ccIs (setCc old maskNZVC new) (flagH old) (flagI old) n z v c := by
  obtain ⟨-, -, rfl, rfl, rfl, rfl⟩ := hnew
  exact ccIs_setCc old maskNZVC new

end

theorem logicFlags_move8 (r : Byte) (old : Cc) : logicFlags r old (setCc old maskNZV (move8 r).new) :=
  ccIs_setCc_maskNZV (ccIs_packCc_result ..)

theorem wordFlags_move16 (w : Word) (old : Cc) : wordFlags w old (setCc old maskNZV (move16 w).new) := by
  have hnew : ccIs (move16 w).new false false (w.getLsbD 15) (decide (w = 0)) false false := by
    simp [ccIs, move16, BitVec.msb_eq_getLsbD_last, beq_eq_decide]
  exact ccIs_setCc_maskNZV hnew

/-- A clear sets Z and clears N, V and C (R215 to R217). -/
theorem ccIs_clear (old : Cc) :
    ccIs (setCc old maskNZVC (move8 0).new) (flagH old) (flagI old) false true false false :=
  ccIs_setCc_maskNZVC (ccIs_packCc_result ..)

/-- The flags read from a byte are its bits 5 to 0 (10_state.md R41). -/
theorem ccIs_ccOfByte (x : Byte) :
    ccIs (ccOfByte x) (x.getLsbD 5) (x.getLsbD 4) (x.getLsbD 3) (x.getLsbD 2) (x.getLsbD 1) (x.getLsbD 0) := by
  simp [ccIs, ccOfByte, flagH, flagI, flagN, flagZ, flagV, flagC]

/-! What the operands give, and what the shapes answer. -/

theorem State.readSrc8_fst (s : State) (src : Src8) : (s.readSrc8 src).1 = s.srcByte src := by
  cases src <;> rfl

/-- A word operand gives its word, and the reading changes bus traffic only. -/
theorem State.readSrc16_eq (s : State) (src : Src16) :
    s.readSrc16 src =
      (s.srcWord src, { s with bus := (s.readSrc16 src).2.bus, deviceLog := (s.readSrc16 src).2.deviceLog }) := by
  cases src <;> rfl

/-- An accumulator operation leaves the result in the accumulator and the flags merged; the rest is bus traffic. -/
theorem accOperate_answers (x : Acc) (mask : Cc) (f : Byte → Byte → Alu 8) (src : Src8) (s : State) :
    ∃ t, accOperate x mask f src s = .next t ∧ s.newAcc t x ∧ t.acc x = (f (s.acc x) (s.srcByte src)).r ∧
      t.cc = setCc s.cc mask (f (s.acc x) (s.srcByte src)).new := by
  rw [accOperate_eq, State.readSrc8_fst, State.readSrc8_snd]
  cases x <;> exact ⟨_, rfl, rfl, rfl, rfl⟩

/-- A byte store makes one write, and the flags are merged (20_memory.md R86). -/
theorem storeByte_answers (ea : Word) (mask : Cc) (o : Alu 8) (s : State) :
    ∃ t, storeByte ea mask o s = .next t ∧
      t = { s with cc := t.cc, mem := t.mem, bus := s.bus ++ [.write ea o.r], deviceLog := t.deviceLog } ∧
      s.stored t [(ea, o.r)] ∧ t.cc = setCc s.cc mask o.new :=
  ⟨_, rfl, rfl, s.store8_stored ea o.r, rfl⟩

/-- A word store makes two writes, high byte first, and the flags are those of the word (20_memory.md R75). -/
theorem storeWord_answers (ea w : Word) (s : State) :
    ∃ t, storeWord ea w s = .next t ∧
      t = { s with
            cc := t.cc
            mem := t.mem
            bus := s.bus ++ [.write ea (hiByte w), .write (ea + 1) (loByte w)]
            deviceLog := t.deviceLog } ∧
      s.stored t [(ea, hiByte w), (ea + 1, loByte w)] ∧ wordFlags w s.cc t.cc := by
  refine ⟨_, rfl, ?_, s.store16_stored ea w, wordFlags_move16 w s.cc⟩
  have hbus : (s.store16 ea w).bus = s.bus ++ [.write ea (hiByte w), .write (ea + 1) (loByte w)] :=
    List.append_assoc ..
  rw [← hbus]
  rfl

/-! The statements. -/

/-- Settles O30: both are accumulator operations whose result is the operand. -/
theorem accumulatorLoads : Obligations.AccumulatorLoads := by
  intro src s
  have hload (x : Acc) : ∃ t, accOperate x maskNZV (fun _ m => move8 m) src s = .next t ∧ s.newAcc t x ∧
      t.acc x = s.srcByte src ∧ logicFlags (s.srcByte src) s.cc t.cc := by
    obtain ⟨t, he, ht, hr, hcc⟩ := accOperate_answers x maskNZV (fun _ m => move8 m) src s
    exact ⟨t, he, ht, hr, hcc ▸ logicFlags_move8 ..⟩
  exact List.forall_mem_cons.2 ⟨hload .a, List.forall_mem_singleton.2 (hload .b)⟩

/-- Settles O31: both are byte stores of a move. -/
theorem accumulatorStores : Obligations.AccumulatorStores := by
  intro dst s
  have hstore (r : Byte) : ∃ t, storeByte (s.dstAddr dst) maskNZV (move8 r) s = .next t ∧
      t = { s with cc := t.cc, mem := t.mem, bus := s.bus ++ [.write (s.dstAddr dst) r], deviceLog := t.deviceLog } ∧
      s.stored t [(s.dstAddr dst, r)] ∧ logicFlags r s.cc t.cc := by
    obtain ⟨t, he, ht, hmem, hcc⟩ := storeByte_answers (s.dstAddr dst) maskNZV (move8 r) s
    exact ⟨t, he, ht, hmem, hcc ▸ logicFlags_move8 ..⟩
  exact List.forall_mem_cons.2 ⟨hstore s.a, List.forall_mem_singleton.2 (hstore s.b)⟩

/-- Settles O32: the operand is read in the state before the register is written, so an indexed address uses the old IX. -/
theorem wordRegisterLoads : Obligations.WordRegisterLoads := by
  intro src s
  constructor
  · rw [exec, execLdx, State.readSrc16_eq]
    exact ⟨_, rfl, rfl, wordFlags_move16 ..⟩
  · rw [exec, execLds, State.readSrc16_eq]
    exact ⟨_, rfl, rfl, wordFlags_move16 ..⟩

/-- Settles O33: both are word stores. -/
theorem wordRegisterStores : Obligations.WordRegisterStores := fun dst s =>
  List.forall_mem_cons.2 ⟨storeWord_answers (s.dstAddr dst) s.ix s,
    List.forall_mem_singleton.2 (storeWord_answers (s.dstAddr dst) s.sp s)⟩

/-- Settles O34: TAB and TBA are moves, TAP reads the flags off A, and TPA, TSX and TXS write one register. -/
theorem registerTransfers : Obligations.RegisterTransfers := fun s =>
  ⟨⟨_, rfl, rfl, logicFlags_move8 ..⟩, ⟨_, rfl, rfl, logicFlags_move8 ..⟩, ⟨_, rfl, rfl, ccIs_ccOfByte s.a⟩,
    rfl, rfl, rfl⟩

/-- Settles O35: CLR is a byte store, which reads nothing; in each the flags are those of a clear. -/
theorem clears : Obligations.Clears := by
  intro ref s
  obtain ⟨t, he, ht, hmem, hcc⟩ := storeByte_answers (s.refAddr ref) maskNZVC (move8 0) s
  exact ⟨⟨_, rfl, rfl, ccIs_clear s.cc⟩, ⟨_, rfl, rfl, ccIs_clear s.cc⟩, t, he, ht, hmem, hcc ▸ ccIs_clear s.cc⟩

end Sys2Proof.Machine
end

section
/-!
The arithmetic instructions (42_arithmetic.md): the flags each operation leaves after the merge under its mask, what the
shapes the family adds answer, and from these the family's seven statements.
-/

namespace Sys2Proof.Machine

/-! The flags of the operations (40_alu.md sections 2, 5 and 6), merged under the masks the family uses. -/

section
variable {old new : Cc} {h i n z v c : Bool}

/-- A merge under `{H,N,Z,V,C}` keeps I only. -/
theorem ccIs_setCc_maskHNZVC (hnew : ccIs new h i n z v c) :
    ccIs (setCc old maskHNZVC new) h (flagI old) n z v c := by
  obtain ⟨rfl, -, rfl, rfl, rfl, rfl⟩ := hnew
  exact ccIs_setCc old maskHNZVC new

/-- A merge under `{Z}` takes Z from the new value (decision D12). -/
theorem ccIs_setCc_maskZ (hnew : ccIs new h i n z v c) :
    ccIs (setCc old maskZ new) (flagH old) (flagI old) (flagN old) z (flagV old) (flagC old) := by
  obtain ⟨-, -, -, rfl, -, -⟩ := hnew
  exact ccIs_setCc old maskZ new

end

/-- The flags of `new` are those of a byte counted up or down to `r`: H, I and C as in `old` (R257 to R262). -/
abbrev countFlags (r : Byte) (v : Bool) (old new : Cc) : Prop :=
  ccIs new (flagH old) (flagI old) (r.getLsbD 7) (decide (r = 0)) v (flagC old)

section
variable (a b : Byte) (cin : Bool) (old : Cc)

theorem addsTo_add8 : addsTo a b cin old (setCc old maskHNZVC (add8 a b cin).new) (add8 a b cin).r :=
  ⟨toNat_add8 a b cin, ccIs_setCc_maskHNZVC (ccIs_add8 a b cin)⟩

theorem subtractsTo_sub8 : subtractsTo a b cin old (setCc old maskNZVC (sub8 a b cin).new) (sub8 a b cin).r :=
  ⟨toNat_sub8 a b cin, ccIs_setCc_maskNZVC (ccIs_sub8 a b cin)⟩

/-- A byte read as two's complement (R164). -/
theorem toInt_range : -128 ≤ a.toInt ∧ a.toInt ≤ 127 :=
  ⟨BitVec.le_toInt a, Int.le_of_lt_add_one BitVec.toInt_lt⟩

theorem add8_r_of_no_carry : (add8 a b false).r = a + b := by
  simp [add8_r]

theorem sub8_r_of_no_borrow : (sub8 a b false).r = a - b := by
  rw [sub8_r_eq_add8_not, add8_r, BitVec.add_assoc, BitVec.sub_eq_add_neg, BitVec.neg_eq_not_add]
  rfl

/-- An increment leaves the signed range at 0x7F only. -/
theorem countFlags_increment :
    countFlags (a + 1) (decide (a = 0x7F)) old (setCc old maskNZV (add8 a 1 false).new) := by
  have hflags := ccIs_setCc_maskNZV (old := old) (ccIs_add8 a 1 false)
  have hV : (a.toInt + (1 : Byte).toInt + false.toNat < -128 ∨ a.toInt + (1 : Byte).toInt + false.toNat > 127) ↔
      a = 0x7F := by
    have hrange := toInt_range a
    rw [← BitVec.toInt_inj]
    change (a.toInt + 1 + 0 < -128 ∨ a.toInt + 1 + 0 > 127) ↔ a.toInt = 127
    omega
  rwa [add8_r_of_no_carry, decide_eq_decide.2 hV] at hflags

/-- A decrement leaves the signed range at 0x80 only. -/
theorem countFlags_decrement :
    countFlags (a - 1) (decide (a = 0x80)) old (setCc old maskNZV (sub8 a 1 false).new) := by
  have hflags := ccIs_setCc_maskNZV (old := old) (ccIs_sub8 a 1 false)
  have hV : (a.toInt - (1 : Byte).toInt - false.toNat < -128 ∨ a.toInt - (1 : Byte).toInt - false.toNat > 127) ↔
      a = 0x80 := by
    have hrange := toInt_range a
    rw [← BitVec.toInt_inj]
    change (a.toInt - 1 - 0 < -128 ∨ a.toInt - 1 - 0 > 127) ↔ a.toInt = -128
    omega
  rwa [sub8_r_of_no_borrow, decide_eq_decide.2 hV] at hflags

/-- A test subtracts zero: nothing overflows and nothing is borrowed. -/
theorem ccIs_test :
    ccIs (setCc old maskNZVC (sub8 a 0 false).new) (flagH old) (flagI old) (a.getLsbD 7) (decide (a = 0))
      false false := by
  have hflags := ccIs_setCc_maskNZVC (old := old) (ccIs_sub8 a 0 false)
  have hr : (sub8 a 0 false).r = a := (sub8_r_of_no_borrow a 0).trans (BitVec.sub_zero a)
  have hV : ¬(a.toInt - (0 : Byte).toInt - false.toNat < -128 ∨ a.toInt - (0 : Byte).toInt - false.toNat > 127) := by
    have hrange := toInt_range a
    change ¬(a.toInt - 0 - 0 < -128 ∨ a.toInt - 0 - 0 > 127)
    omega
  have hC : ¬a.toNat < (0 : Byte).toNat + false.toNat := Nat.not_lt_zero _
  rwa [hr, decide_eq_false hV, decide_eq_false hC] at hflags

end

/-- The correction of DAA in the words of the statement (R156). -/
theorem daa8_eq (rule : DaaVRule) (a : Byte) (h c v : Bool) :
    daa8 rule a h c v =
      (let lo := if a.toNat % 16 > 9 ∨ h = true then a.toNat + 0x06 else a.toNat
       let corr := decide (lo > 0x9F ∨ c = true)
       let r : Byte := BitVec.ofNat 8 (if corr then lo + 0x60 else lo)
       { r := r, new := packCc false false r.msb (r == 0) (corr || (decide (rule = .preserve) && v)) corr }) := by
  cases rule <;> simp [daa8]

/-- N and Z are those of the difference, V the parameter's (R159). -/
theorem ccIs_sub16 (rule : CpxVRule) (x y : Word) :
    ccIs (sub16 rule x y).new false false ((x - y).getLsbD 15) (decide (x - y = 0)) (v16 rule x y (x - y)) false := by
  simp [ccIs, sub16, BitVec.msb_eq_getLsbD_last, beq_eq_decide]

/-- Z is that of the sum, and no other flag is defined (R158). -/
theorem ccIs_add16 (x y : Word) : ccIs (add16 x y).new false false false (decide (x + y = 0)) false false := by
  simp [ccIs, add16, beq_eq_decide]

/-! What the shapes answer. -/

/-- A compare leaves the flags merged; the rest is bus traffic. -/
theorem accCompare_answers (x : Acc) (mask : Cc) (f : Byte → Byte → Alu 8) (src : Src8) (s : State) :
    ∃ t, accCompare x mask f src s = .next t ∧ s.newFlags t ∧
      t.cc = setCc s.cc mask (f (s.acc x) (s.srcByte src)).new := by
  rw [accCompare_eq, State.readSrc8_fst, State.readSrc8_snd]
  exact ⟨_, rfl, rfl, rfl⟩

/-- An inherent operation leaves the result in the accumulator and the flags merged. -/
theorem accWrite_answers (x : Acc) (mask : Cc) (o : Alu 8) (s : State) :
    ∃ t, accWrite x mask o s = .next t ∧ t = { s.setAcc x o.r with cc := t.cc } ∧ t.acc x = o.r ∧
      t.cc = setCc s.cc mask o.new := by
  cases x <;> exact ⟨_, rfl, rfl, rfl, rfl⟩

/-- A read-modify-write makes one read and one write at the address, and the flags are merged (R86, R87). -/
theorem memOperate_answers (mask : Cc) (f : Byte → Alu 8) (ref : Ref) (s : State) :
    ∃ t, memOperate mask f ref s = .next t ∧ s.modified t (s.refAddr ref) (f (s.byteAt (s.refAddr ref))).r ∧
      t.cc = setCc s.cc mask (f (s.byteAt (s.refAddr ref))).new := by
  rw [memOperate_eq, State.store8, State.load8]
  simp only [State.logAccess, List.append_assoc]
  exact ⟨_, rfl, ⟨rfl, State.store8_stored (s.load8 _).2 _ _⟩, rfl⟩

section
variable (x : Acc) (s : State)

theorem accWrite_negates : ∃ t, accWrite x maskNZVC (neg8 (s.acc x)) s = .next t ∧
    t = { s.setAcc x (t.acc x) with cc := t.cc } ∧ subtractsTo 0 (s.acc x) false s.cc t.cc (t.acc x) := by
  obtain ⟨t, he, ht, hr, hcc⟩ := accWrite_answers x maskNZVC (neg8 (s.acc x)) s
  exact ⟨t, he, hr ▸ ht, hr ▸ hcc ▸ subtractsTo_sub8 ..⟩

theorem accWrite_increments : ∃ t, accWrite x maskNZV (add8 (s.acc x) 1 false) s = .next t ∧
    t = { s.setAcc x (s.acc x + 1) with cc := t.cc } ∧
    countFlags (s.acc x + 1) (decide (s.acc x = 0x7F)) s.cc t.cc := by
  obtain ⟨t, he, ht, -, hcc⟩ := accWrite_answers x maskNZV (add8 (s.acc x) 1 false) s
  exact ⟨t, he, add8_r_of_no_carry .. ▸ ht, hcc ▸ countFlags_increment ..⟩

theorem accWrite_decrements : ∃ t, accWrite x maskNZV (sub8 (s.acc x) 1 false) s = .next t ∧
    t = { s.setAcc x (s.acc x - 1) with cc := t.cc } ∧
    countFlags (s.acc x - 1) (decide (s.acc x = 0x80)) s.cc t.cc := by
  obtain ⟨t, he, ht, -, hcc⟩ := accWrite_answers x maskNZV (sub8 (s.acc x) 1 false) s
  exact ⟨t, he, sub8_r_of_no_borrow .. ▸ ht, hcc ▸ countFlags_decrement ..⟩

end

/-! The statements. -/

/-- Settles O36: four are accumulator operations with `add8`, and ABA is its inherent form. -/
theorem additions : Obligations.Additions := by
  intro src s
  have hadd (x : Acc) (cin : Bool) : ∃ t, accOperate x maskHNZVC (fun r m => add8 r m cin) src s = .next t ∧
      s.newAcc t x ∧ addsTo (s.acc x) (s.srcByte src) cin s.cc t.cc (t.acc x) := by
    obtain ⟨t, he, ht, hr, hcc⟩ := accOperate_answers x maskHNZVC (fun r m => add8 r m cin) src s
    exact ⟨t, he, ht, hr ▸ hcc ▸ addsTo_add8 ..⟩
  refine ⟨?_, _, rfl, rfl, addsTo_add8 ..⟩
  simp only [List.forall_mem_cons]
  exact ⟨hadd .a false, hadd .b false, hadd .a _, hadd .b _, List.forall_mem_nil _⟩

/-- Settles O37: four are accumulator operations with `sub8`, and SBA is its inherent form. -/
theorem subtractions : Obligations.Subtractions := by
  intro src s
  have hsub (x : Acc) (cin : Bool) : ∃ t, accOperate x maskNZVC (fun r m => sub8 r m cin) src s = .next t ∧
      s.newAcc t x ∧ subtractsTo (s.acc x) (s.srcByte src) cin s.cc t.cc (t.acc x) := by
    obtain ⟨t, he, ht, hr, hcc⟩ := accOperate_answers x maskNZVC (fun r m => sub8 r m cin) src s
    exact ⟨t, he, ht, hr ▸ hcc ▸ subtractsTo_sub8 ..⟩
  refine ⟨?_, _, rfl, rfl, subtractsTo_sub8 ..⟩
  simp only [List.forall_mem_cons]
  exact ⟨hsub .a false, hsub .b false, hsub .a _, hsub .b _, List.forall_mem_nil _⟩

/-- Settles O38: the result that the compares drop is that of `sub8`, and the tests subtract zero. -/
theorem comparesAndTests : Obligations.ComparesAndTests := by
  intro src ref s
  have hcmp (x : Acc) : ∃ t, accCompare x maskNZVC (fun r m => sub8 r m false) src s = .next t ∧ s.newFlags t ∧
      ∃ r, subtractsTo (s.acc x) (s.srcByte src) false s.cc t.cc r := by
    obtain ⟨t, he, ht, hcc⟩ := accCompare_answers x maskNZVC (fun r m => sub8 r m false) src s
    exact ⟨t, he, ht, _, hcc ▸ subtractsTo_sub8 ..⟩
  exact ⟨List.forall_mem_cons.2 ⟨hcmp .a, List.forall_mem_singleton.2 (hcmp .b)⟩,
    ⟨_, rfl, rfl, _, subtractsTo_sub8 ..⟩,
    List.forall_mem_cons.2 ⟨⟨_, rfl, rfl, ccIs_test s.a s.cc⟩,
      List.forall_mem_singleton.2 ⟨_, rfl, rfl, ccIs_test s.b s.cc⟩⟩,
    _, rfl, rfl, ccIs_test ..⟩

/-- Settles O39: NEG is `sub8` from zero, INC and DEC are `add8` and `sub8` of one under a mask without C. -/
theorem negateIncrementDecrement : Obligations.NegateIncrementDecrement := by
  intro ref s
  refine ⟨List.forall_mem_cons.2 ⟨accWrite_negates .a s, List.forall_mem_singleton.2 (accWrite_negates .b s)⟩,
    List.forall_mem_cons.2 ⟨accWrite_increments .a s, List.forall_mem_singleton.2 (accWrite_increments .b s)⟩,
    List.forall_mem_cons.2 ⟨accWrite_decrements .a s, List.forall_mem_singleton.2 (accWrite_decrements .b s)⟩,
    ?neg, ?inc, ?dec⟩
  case neg =>
    obtain ⟨t, he, ht, hcc⟩ := memOperate_answers maskNZVC neg8 ref s
    exact ⟨t, _, he, ht, hcc ▸ subtractsTo_sub8 ..⟩
  case inc =>
    obtain ⟨t, he, ht, hcc⟩ := memOperate_answers maskNZV (fun m => add8 m 1 false) ref s
    exact ⟨t, he, add8_r_of_no_carry .. ▸ ht, hcc ▸ countFlags_increment ..⟩
  case dec =>
    obtain ⟨t, he, ht, hcc⟩ := memOperate_answers maskNZV (fun m => sub8 m 1 false) ref s
    exact ⟨t, he, sub8_r_of_no_borrow .. ▸ ht, hcc ▸ countFlags_decrement ..⟩

/-- Settles O40: DAA is an inherent operation with the correction of `daa8`. -/
theorem decimalAdjust : Obligations.DecimalAdjust := by
  intro s
  obtain ⟨t, he, ht, -, hcc⟩ := accWrite_answers .a maskNZVC
    (daa8 s.config.daaVNoCorr s.a (flagH s.cc) (flagC s.cc) (flagV s.cc)) s
  rw [daa8_eq] at ht hcc
  exact ⟨t, he, ht, hcc ▸ ccIs_setCc_maskNZVC (ccIs_packCc_result ..)⟩

/-- Settles O41: CPX reads its operand and merges the flags of `sub16`, whose V is `v16` under the parameter. -/
theorem compareIndexRegister : Obligations.CompareIndexRegister := by
  intro src s
  obtain ⟨hH, hI, hN, hZ, hV, hC⟩ :=
    ccIs_setCc_maskNZV (old := s.cc) (ccIs_sub16 s.config.cpxVRule s.ix (s.srcWord src))
  rw [exec, execCpx, State.readSrc16_eq]
  exact ⟨_, rfl, rfl, hH, hI, hC, hN, hZ, fun hrule => hV.trans (by rw [hrule, v16]),
    fun hrule => hV.trans (by rw [hrule, v16, Bool.decide_or])⟩

/-- Settles O42: INX and DEX merge the flags of `add16` and `sub16` under `{Z}`; INS and DES write SP only. -/
theorem indexAndStackSteps : Obligations.IndexAndStackSteps := fun _ =>
  ⟨List.forall_mem_cons.2 ⟨⟨_, rfl, rfl, ccIs_setCc_maskZ (ccIs_add16 ..)⟩,
    List.forall_mem_singleton.2 ⟨_, rfl, rfl, ccIs_setCc_maskZ (ccIs_sub16 ..)⟩⟩, rfl, rfl⟩

end Sys2Proof.Machine
end

section
/-!
The logical, complement, shift and rotate instructions (43_logic_shift.md). Every shift is a rotate that moves a given bit in,
so one fact on the value for each direction serves all fifteen; from these the family's four statements.
-/

namespace Sys2Proof.Machine

/-! Results and flags of the operations (40_alu.md R148, R150 to R155). -/

/-- The value of a concatenation: no bit of the high part meets one of the low part. -/
theorem toNat_append_eq_add {m n : Nat} (x : BitVec m) (y : BitVec n) :
    (x ++ y).toNat = x.toNat * 2 ^ n + y.toNat := by
  rw [BitVec.toNat_append, ← Nat.shiftLeft_add_eq_or_of_lt y.isLt, Nat.shiftLeft_eq]

/-- ASL moves a zero in at bit 0 (R151). -/
theorem asl8_eq_rol8 : asl8 = fun a => rol8 a false := by
  funext a
  have hr : a <<< 1 = a.extractLsb' 0 7 ++ BitVec.ofBool false := BitVec.shiftLeft_eq_concat_of_lt (by decide)
  rw [asl8, rol8, hr]

/-- LSR moves a zero in at bit 7 (R153). -/
theorem lsr8_eq_ror8 : lsr8 = fun a => ror8 a false := by
  funext a
  have hr : a >>> 1 = BitVec.ofBool false ++ a.extractLsb' 1 7 := BitVec.ushiftRight_eq_extractLsb'_of_lt (by decide)
  rw [lsr8, ror8, hr]

/-- ASR moves the old bit 7 in at bit 7 (R152). -/
theorem asr8_eq_ror8 : asr8 = fun a => ror8 a (a.getLsbD 7) := by
  funext a
  have hr : a.sshiftRight 1 = BitVec.ofBool (a.getLsbD 7) ++ a.extractLsb' 1 7 := by
    apply BitVec.eq_of_getLsbD_eq
    intro i hi
    rw [BitVec.getLsbD_sshiftRight, BitVec.getLsbD_append, BitVec.getLsbD_extractLsb']
    by_cases hlow : i < 7
    · simp [hlow, hi, show 1 + i < 8 by omega]
    · obtain rfl : i = 7 := by omega
      simp [BitVec.msb_eq_getLsbD_last]
  rw [asr8, ror8, hr]

section
variable (a r : Byte) (cin out : Bool) (old : Cc)

theorem toNat_com8 : (com8 a).r.toNat = 255 - a.toNat := BitVec.toNat_not

/-- A rotate left doubles and adds the bit moved in (R154). -/
theorem toNat_rol8 : (rol8 a cin).r.toNat = (a.toNat * 2 + cin.toNat) % 256 := by
  have hcat : (rol8 a cin).r.toNat = a.toNat % 128 * 2 + (BitVec.ofBool cin).toNat := toNat_append_eq_add ..
  have hcin := cin.toNat_le
  rw [hcat, BitVec.toNat_ofBool]
  omega

/-- A rotate right halves, with the bit moved in at bit 7 (R155). -/
theorem toNat_ror8 : (ror8 a cin).r.toNat = a.toNat / 2 + 128 * cin.toNat := by
  have hcat : (ror8 a cin).r.toNat = (BitVec.ofBool cin).toNat * 128 + (a.extractLsb' 1 7).toNat :=
    toNat_append_eq_add ..
  have ha := a.isLt
  rw [hcat, BitVec.toNat_ofBool, BitVec.extractLsb'_toNat, Nat.shiftRight_eq_div_pow]
  omega

theorem shiftFlags_shift8 : shiftFlags r out old (setCc old maskNZVC (shift8 r out).new) :=
  ccIs_setCc_maskNZVC (ccIs_shift8 r out)

/-- A complement clears V and sets C (R148). -/
theorem ccIs_com8 :
    ccIs (setCc old maskNZVC (com8 a).new) (flagH old) (flagI old) ((com8 a).r.getLsbD 7) (decide ((com8 a).r = 0))
      false true :=
  ccIs_setCc_maskNZVC (ccIs_packCc_result ..)

end

/-! What the shapes answer with these operations. -/

section
variable (x : Acc) (s : State) (ref : Ref) (src : Src8)

/-- An accumulator operation with a bitwise function `g` of accumulator and operand (R146). -/
theorem accOperate_logic (g : Byte → Byte → Byte) :
    ∃ t, accOperate x maskNZV (fun a m => logic8 (g a m) false) src s = .next t ∧ s.newAcc t x ∧
      t.acc x = g (s.acc x) (s.srcByte src) ∧ logicFlags (g (s.acc x) (s.srcByte src)) s.cc t.cc := by
  obtain ⟨t, he, ht, hr, hcc⟩ := accOperate_answers x maskNZV (fun a m => logic8 (g a m) false) src s
  exact ⟨t, he, ht, hr, hcc ▸ logicFlags_move8 ..⟩

theorem accCompare_and : ∃ t, accCompare x maskNZV and8 src s = .next t ∧ s.newFlags t ∧
    logicFlags (s.acc x &&& s.srcByte src) s.cc t.cc := by
  obtain ⟨t, he, ht, hcc⟩ := accCompare_answers x maskNZV and8 src s
  exact ⟨t, he, ht, hcc ▸ logicFlags_move8 ..⟩

theorem accWrite_complements : ∃ t, accWrite x maskNZVC (com8 (s.acc x)) s = .next t ∧
    t = { s.setAcc x (t.acc x) with cc := t.cc } ∧ (t.acc x).toNat = 255 - (s.acc x).toNat ∧
    ccIs t.cc (flagH s.cc) (flagI s.cc) ((t.acc x).getLsbD 7) (decide (t.acc x = 0)) false true := by
  obtain ⟨t, he, ht, hr, hcc⟩ := accWrite_answers x maskNZVC (com8 (s.acc x)) s
  exact ⟨t, he, hr ▸ ht, hr ▸ toNat_com8 _, hr ▸ hcc ▸ ccIs_com8 ..⟩

theorem accWrite_rol8 (cin : Bool) : ∃ t, accWrite x maskNZVC (rol8 (s.acc x) cin) s = .next t ∧
    t = { s.setAcc x (t.acc x) with cc := t.cc } ∧ (t.acc x).toNat = ((s.acc x).toNat * 2 + cin.toNat) % 256 ∧
    shiftFlags (t.acc x) ((s.acc x).getLsbD 7) s.cc t.cc := by
  obtain ⟨t, he, ht, hr, hcc⟩ := accWrite_answers x maskNZVC (rol8 (s.acc x) cin) s
  exact ⟨t, he, hr ▸ ht, hr ▸ toNat_rol8 .., hr ▸ hcc ▸ shiftFlags_shift8 ..⟩

theorem accWrite_ror8 (cin : Bool) : ∃ t, accWrite x maskNZVC (ror8 (s.acc x) cin) s = .next t ∧
    t = { s.setAcc x (t.acc x) with cc := t.cc } ∧ (t.acc x).toNat = (s.acc x).toNat / 2 + 128 * cin.toNat ∧
    shiftFlags (t.acc x) ((s.acc x).getLsbD 0) s.cc t.cc := by
  obtain ⟨t, he, ht, hr, hcc⟩ := accWrite_answers x maskNZVC (ror8 (s.acc x) cin) s
  exact ⟨t, he, hr ▸ ht, hr ▸ toNat_ror8 .., hr ▸ hcc ▸ shiftFlags_shift8 ..⟩

theorem memOperate_rol8 (cin : Bool) : ∃ t r, memOperate maskNZVC (fun m => rol8 m cin) ref s = .next t ∧
    s.modified t (s.refAddr ref) r ∧ r.toNat = ((s.byteAt (s.refAddr ref)).toNat * 2 + cin.toNat) % 256 ∧
    shiftFlags r ((s.byteAt (s.refAddr ref)).getLsbD 7) s.cc t.cc := by
  obtain ⟨t, he, ht, hcc⟩ := memOperate_answers maskNZVC (fun m => rol8 m cin) ref s
  exact ⟨t, _, he, ht, toNat_rol8 .., hcc ▸ shiftFlags_shift8 ..⟩

/-- The bit moved in may depend on the byte, as it does for ASR. -/
theorem memOperate_ror8 (cin : Byte → Bool) :
    ∃ t r, memOperate maskNZVC (fun m => ror8 m (cin m)) ref s = .next t ∧ s.modified t (s.refAddr ref) r ∧
      r.toNat = (s.byteAt (s.refAddr ref)).toNat / 2 + 128 * (cin (s.byteAt (s.refAddr ref))).toNat ∧
      shiftFlags r ((s.byteAt (s.refAddr ref)).getLsbD 0) s.cc t.cc := by
  obtain ⟨t, he, ht, hcc⟩ := memOperate_answers maskNZVC (fun m => ror8 m (cin m)) ref s
  exact ⟨t, _, he, ht, toNat_ror8 .., hcc ▸ shiftFlags_shift8 ..⟩

end

/-! The statements. -/

/-- Settles O43: six are accumulator operations with a bitwise function, and BIT is a compare with the AND. -/
theorem logicAndBitTests : Obligations.LogicAndBitTests := by
  intro src s
  have hand (x : Acc) := accOperate_logic x s src (· &&& ·)
  have hor (x : Acc) := accOperate_logic x s src (· ||| ·)
  have hxor (x : Acc) := accOperate_logic x s src (· ^^^ ·)
  refine ⟨?_, List.forall_mem_cons.2 ⟨accCompare_and .a s src, List.forall_mem_singleton.2 (accCompare_and .b s src)⟩⟩
  simp only [List.forall_mem_cons]
  exact ⟨hand .a, hand .b, hor .a, hor .b, hxor .a, hxor .b, List.forall_mem_nil _⟩

/-- Settles O44: each writes the result of `com8` and merges its flags, C with them. -/
theorem complements : Obligations.Complements := by
  intro ref s
  obtain ⟨t, he, ht, hcc⟩ := memOperate_answers maskNZVC com8 ref s
  exact ⟨List.forall_mem_cons.2 ⟨accWrite_complements .a s, List.forall_mem_singleton.2 (accWrite_complements .b s)⟩,
    t, _, he, ht, toNat_com8 _, hcc ▸ ccIs_com8 ..⟩

/-- Settles O45: ASL is ROL with a zero moved in. -/
theorem leftShifts : Obligations.LeftShifts := by
  intro ref s
  simp only [List.forall_mem_cons, exec, execAsla, execAslb, execAsl, asl8_eq_rol8]
  exact ⟨⟨accWrite_rol8 .a s false, accWrite_rol8 .b s false, accWrite_rol8 .a s _, accWrite_rol8 .b s _,
      List.forall_mem_nil _⟩,
    memOperate_rol8 s ref false, memOperate_rol8 s ref _, List.forall_mem_nil _⟩

/-- Settles O46: LSR and ASR are ROR with a zero and with the old bit 7 moved in. -/
theorem rightShifts : Obligations.RightShifts := by
  intro ref s
  simp only [List.forall_mem_cons, exec, execAsra, execAsrb, execAsr, execLsra, execLsrb, execLsr, asr8_eq_ror8,
    lsr8_eq_ror8]
  exact ⟨⟨accWrite_ror8 .a s _, accWrite_ror8 .b s _, accWrite_ror8 .a s false, accWrite_ror8 .b s false,
      accWrite_ror8 .a s _, accWrite_ror8 .b s _, List.forall_mem_nil _⟩,
    memOperate_ror8 s ref (·.getLsbD 7), memOperate_ror8 s ref fun _ => false,
    memOperate_ror8 s ref fun _ => flagC s.cc, List.forall_mem_nil _⟩

end Sys2Proof.Machine
end

section
/-!
The branches, jumps and subroutine instructions (44_control.md): what the shapes of a branch and of a call answer, that RTS
undoes a call, and from these the family's three statements.
-/

namespace Sys2Proof.Machine

/-- A push of a word is a word store one below SP, and SP lowered by two (20_memory.md R79). -/
theorem State.push16_eq_store16 (s : State) (w : Word) :
    s.push16 w = { s.store16 (s.sp - 1) w with sp := s.sp - 2 } := by
  rw [State.push16_eq, State.store16, BitVec.sub_add_cancel]

/-- In RAM the word pushed last stands above the new SP. -/
theorem State.wordAt_push16 (s : State) (w : Word) (h : s.allRam [s.sp - 1, s.sp]) :
    (s.push16 w).wordAt (s.sp - 2 + 1) = w := by
  have hsp : s.sp - 2 + 1 = s.sp - 1 := by bv_omega
  have hhi : s.kindAt (s.sp - 1) = .ram := h _ (by simp)
  have hlo : s.kindAt (s.sp - 1 + 1) = .ram := by
    rw [BitVec.sub_add_cancel]
    exact h _ (by simp)
  obtain ⟨hword, -⟩ := wordAccessIsBigEndian s (s.sp - 1) w hhi hlo
  rw [hsp, State.push16_eq_store16]
  exact hword

/-- A branch goes to its target exactly when its condition holds (44_control.md R350, 30_encoding.md R114). -/
theorem branchOn_eq (k : BranchCond) (off : Byte) (s : State) :
    branchOn k off s = .next (if taken k s.cc then { s with pc := s.pc + off.signExtend 16 } else s) := rfl

/-- A call stores the return address, high byte first, and goes to its target (R366, R368). -/
theorem callTo_answers (target : Word) (s : State) :
    ∃ t, callTo target s = .next t ∧
      t = { s with
            sp := s.sp - 2
            pc := target
            mem := t.mem
            bus := s.bus ++ [.write (s.sp - 1) (hiByte s.pc), .write s.sp (loByte s.pc)]
            deviceLog := t.deviceLog } ∧
      s.stored t [(s.sp - 1, hiByte s.pc), (s.sp, loByte s.pc)] := by
  have hbus : (s.push16 s.pc).bus = s.bus ++ [.write (s.sp - 1) (hiByte s.pc), .write s.sp (loByte s.pc)] := by
    rw [State.push16_bus, List.append_assoc]
    rfl
  have hmem := s.store16_stored (s.sp - 1) s.pc
  rw [BitVec.sub_add_cancel] at hmem
  refine ⟨_, rfl, ?_, ?_⟩
  · rw [← hbus]
    rfl
  · rw [State.push16_eq_store16]
    exact hmem

/-- RTS pulls PC (R369). -/
theorem exec_rts (s : State) : exec .rts s = .next { s.pull16.2 with pc := s.wordAt (s.sp + 1) } := rfl

/-- RTS undoes a call whose return address lies in RAM, wherever the subroutine left PC (R369). -/
theorem callTo_rts (s : State) (target pc' : Word) (h : s.allRam [s.sp - 1, s.sp]) :
    ∃ t u, callTo target s = .next t ∧ exec .rts { t with pc := pc' } = .next u ∧
      u.pc = s.pc ∧ u.sp = s.sp ∧ u.a = s.a ∧ u.b = s.b ∧ u.ix = s.ix ∧ u.cc = s.cc := by
  refine ⟨_, _, rfl, exec_rts _, s.wordAt_push16 s.pc h, ?_⟩
  -- SP is back where it was, and neither a push nor a pull writes A, B, IX or CC.
  simp

/-! The statements. -/

/-- Settles O47: each is `branchOn` with its condition of the branch table. -/
theorem branches : Obligations.Branches := by
  intro off s
  have hbranch (k : BranchCond) := branchOn_eq k off s
  simp only [List.forall_mem_cons]
  exact ⟨hbranch .always, hbranch .hi, hbranch .ls, hbranch .cc, hbranch .cs, hbranch .ne, hbranch .eq, hbranch .vc,
    hbranch .vs, hbranch .pl, hbranch .mi, hbranch .ge, hbranch .lt, hbranch .gt, hbranch .le, List.forall_mem_nil _⟩

/-- Settles O48: BSR and JSR are calls, JMP writes PC, and RTS is a word pull into PC. -/
theorem jumpsAndCalls : Obligations.JumpsAndCalls := fun off ref s =>
  ⟨List.forall_mem_cons.2 ⟨callTo_answers (s.relativeTarget off) s,
      List.forall_mem_singleton.2 (callTo_answers (s.refAddr ref) s)⟩,
    rfl, _, exec_rts s, rfl⟩

/-- Settles O49: both are calls, which RTS undoes. -/
theorem callThenReturn : Obligations.CallThenReturn := fun off ref s pc' h =>
  List.forall_mem_cons.2 ⟨callTo_rts s (s.relativeTarget off) pc' h,
    List.forall_mem_singleton.2 (callTo_rts s (s.refAddr ref) pc' h)⟩

end Sys2Proof.Machine
end

section
/-!
The stack, condition-code and system instructions (45_stack_cc_system.md): what byte pulls do one after another, that a
return from interrupt is seven of them, what a push and a merge of flags answer, and from these the family's three statements.
-/

namespace Sys2Proof.Machine

/-! Byte pulls one after another (20_memory.md R80). -/

/-- The state after `k` byte pulls. -/
def State.afterPulls (s : State) : Nat → State
  | 0 => s
  | k + 1 => (s.afterPulls k).pull8.2

/-- The byte that comes after `k` byte pulls. -/
def State.pulledByte (s : State) (k : Nat) : Byte := (s.afterPulls k).pull8.1

/-- The transactions of `k` byte pulls: reads above SP, upwards. -/
def State.pullReads (s : State) (k : Nat) : List BusAccess :=
  (List.range k).map fun j => .read (s.sp + BitVec.ofNat 16 (j + 1)) (s.pulledByte j)

theorem State.afterPulls_sp (s : State) (k : Nat) : (s.afterPulls k).sp = s.sp + BitVec.ofNat 16 k := by
  induction k with
  | zero => exact (BitVec.add_zero s.sp).symm
  | succ k ih =>
    rw [State.afterPulls, State.pull8_snd_sp, ih, BitVec.add_assoc, BitVec.ofNat_add]
    rfl

theorem State.afterPulls_bus (s : State) (k : Nat) : (s.afterPulls k).bus = s.bus ++ s.pullReads k := by
  induction k with
  | zero => exact (List.append_nil s.bus).symm
  | succ k ih =>
    rw [State.pullReads, List.range_succ, List.map_append, ← List.append_assoc, ← State.pullReads, ← ih,
      List.map_singleton, ← State.afterPulls_sp]
    rfl

/-- Byte pulls change SP and bus traffic only. -/
theorem State.afterPulls_frame (s : State) (k : Nat) :
    s.afterPulls k =
      { s with sp := (s.afterPulls k).sp, bus := (s.afterPulls k).bus, deviceLog := (s.afterPulls k).deviceLog } := by
  induction k with
  | zero => rfl
  | succ k ih =>
    rw [State.afterPulls, ih]
    rfl

/-- Outside device windows a pulled byte is memory's. -/
theorem State.pulledByte_of_ne_device {s : State} {k : Nat}
    (h : s.kindAt (s.sp + BitVec.ofNat 16 (k + 1)) ≠ .device) :
    s.pulledByte k = Memory.read s.mem (s.sp + BitVec.ofNat 16 (k + 1)).toNat := by
  have hbyte : s.pulledByte k = (s.afterPulls k).byteAt (s.afterPulls (k + 1)).sp := rfl
  have hmem : (s.afterPulls k).mem = s.mem := by rw [State.afterPulls_frame]
  have hcfg : (s.afterPulls k).config = s.config := by rw [State.afterPulls_frame]
  rw [hbyte, State.afterPulls_sp, State.byteAt_of_ne_device (by rwa [State.kindAt_congr hcfg]), hmem]

/-- A word pull is two byte pulls, the high byte first. -/
theorem State.pull16_eq_pull8 (s : State) :
    s.pull16 = (wordOf s.pull8.1 s.pull8.2.pull8.1, s.pull8.2.pull8.2) := by
  have hsp : s.sp + 1 + 1 = s.sp + 2 := BitVec.add_assoc ..
  rw [State.pull16_eq, ← hsp]
  rfl

/-- A return from interrupt is seven byte pulls, into CC, B, A, IX and PC in that order (R393). -/
theorem State.returnFromInterrupt_eq (s : State) :
    s.returnFromInterrupt =
      { s.afterPulls 7 with
        cc := ccOfByte (s.pulledByte 0)
        b := s.pulledByte 1
        a := s.pulledByte 2
        ix := wordOf (s.pulledByte 3) (s.pulledByte 4)
        pc := wordOf (s.pulledByte 5) (s.pulledByte 6) } := by
  simp only [State.returnFromInterrupt, State.pull16_eq_pull8]
  rfl

/-- The flags a byte gives are its low six bits: bits 7 and 6 are discarded (10_state.md R41). -/
theorem ccOfByte_eq_setWidth (v : Byte) : ccOfByte v = v.setWidth 6 :=
  (BitVec.setWidth_eq_extractLsb' (by decide)).symm

/-! What the shapes answer. -/

/-- A push stores at the old SP and lowers it (R381, R382, 20_memory.md R79). -/
theorem State.push8_stores (s : State) (v : Byte) :
    s.push8 v =
        { s with
          sp := s.sp - 1
          mem := (s.push8 v).mem
          bus := s.bus ++ [.write s.sp v]
          deviceLog := (s.push8 v).deviceLog } ∧
      s.stored (s.push8 v) [(s.sp, v)] := by
  obtain ⟨-, hpush, -⟩ := fetchPushPull s v 0
  rwa [BitVec.sub_add_cancel] at hpush

/-- An instruction that only merges flags takes those in the mask from the new value. -/
theorem flagsOnly_answers (mask new : Cc) (s : State) :
    ∃ t, flagsOnly mask new s = .next t ∧ t = { s with cc := t.cc } ∧
      ccIs t.cc (if flagH mask then flagH new else flagH s.cc) (if flagI mask then flagI new else flagI s.cc)
        (if flagN mask then flagN new else flagN s.cc) (if flagZ mask then flagZ new else flagZ s.cc)
        (if flagV mask then flagV new else flagV s.cc) (if flagC mask then flagC new else flagC s.cc) :=
  ⟨_, rfl, rfl, ccIs_setCc s.cc mask new⟩

/-! The statements. -/

/-- Settles O50: a push is a store at SP, and a pull a load into the accumulator. -/
theorem pushesAndPulls : Obligations.PushesAndPulls := fun s =>
  ⟨List.forall_mem_cons.2 ⟨⟨_, rfl, s.push8_stores s.a⟩, List.forall_mem_singleton.2 ⟨_, rfl, s.push8_stores s.b⟩⟩,
    List.forall_mem_cons.2 ⟨⟨_, rfl, rfl⟩, List.forall_mem_singleton.2 ⟨_, rfl, rfl⟩⟩⟩

/-- Settles O51: six merges under a mask of one flag. -/
theorem conditionCodeInstructions : Obligations.ConditionCodeInstructions := fun s =>
  ⟨flagsOnly_answers maskC 0 s, flagsOnly_answers maskC maskC s, flagsOnly_answers maskV 0 s,
    flagsOnly_answers maskV maskV s, flagsOnly_answers maskI 0 s, flagsOnly_answers maskI maskI s, rfl⟩

/-- Settles O52: RTI is seven byte pulls; WAI and the illegal sentinel write one field each. -/
theorem rtiWaiAndIllegal : Obligations.RtiWaiAndIllegal := by
  refine ⟨fun s => ⟨s.returnFromInterrupt, s.pulledByte 0, s.pulledByte 1, s.pulledByte 2, s.pulledByte 3,
    s.pulledByte 4, s.pulledByte 5, s.pulledByte 6, rfl, ?_, ?_⟩, fun _ => rfl, fun _ _ => rfl⟩
  · rw [← ccOfByte_eq_setWidth, s.returnFromInterrupt_eq, s.afterPulls_frame, s.afterPulls_sp, s.afterPulls_bus]
    rfl
  · simp only [List.forall_mem_cons]
    exact ⟨State.pulledByte_of_ne_device (k := 0), State.pulledByte_of_ne_device (k := 1),
      State.pulledByte_of_ne_device (k := 2), State.pulledByte_of_ne_device (k := 3),
      State.pulledByte_of_ne_device (k := 4), State.pulledByte_of_ne_device (k := 5),
      State.pulledByte_of_ne_device (k := 6), List.forall_mem_nil _⟩

end Sys2Proof.Machine
end

section
/-!
Exceptions and the dispatch loop (60_exceptions.md): the block's step in each run state, the totality of a step, the frame
of an entry read back by a return from interrupt, and the length and absence of bus traffic; from these the
family's statements.
-/

namespace Sys2Proof.Machine

/-! The block's step in each run state (R410, R420, R425, R431). -/

section
variable {s : State}

theorem step_of_running (hm : s.blockMoves) (hr : s.run = .running) : step s = s.atMove.stepRunning := by
  rw [step_of_block hm, State.blockStep, State.atMove_run, hr]

theorem step_of_waiting (hm : s.blockMoves) (hr : s.run = .waiting) : step s = s.atMove.stepWaiting := by
  rw [step_of_block hm, State.blockStep, State.atMove_run, hr]

theorem step_of_halted (hm : s.blockMoves) (hr : s.run = .halted) : step s = s.atMove.stepHalted := by
  rw [step_of_block hm, State.blockStep, State.atMove_run, hr]

/-- RESET or HALT at the boundary halts the block (R410). -/
theorem step_of_stops (hm : s.blockMoves) (hr : s.run = .running) (hl : s.stops) :
    step s = .next { s.atMove with run := .halted } := by
  rw [step_of_running hm hr, State.stepRunning_of_stops (s := s.atMove) hl]

/-- RESET or HALT keeps a halted block as it is (R425). -/
theorem step_of_halted_line (hm : s.blockMoves) (hr : s.run = .halted) (hl : s.resetLine = true ∨ s.haltLine = true) :
    step s = .next s.atMove := by
  rw [step_of_halted hm hr, State.stepHalted_of_line (s := s.atMove) hl]

theorem step_of_off (hm : s.blockMoves) (hr : s.run = .off) : step s = .next s.atMove := by
  rw [step_of_block hm, State.blockStep, State.atMove_run, hr]

/-- The wake condition in the words of R420. -/
theorem State.wakes_iff :
    s.wakes = true ↔ s.nmiLatch = true ∨ (s.irqLine = true ∧ flagI s.cc = false) ∨
      ((s.resetLine = true ∨ s.resetPending = true) ∧ s.config.waiWakeOnReset = true) := by
  simp [State.wakes, or_assoc]

/-- A wake takes the boundary step of a running block in the same iteration (R420). -/
theorem step_of_wakes (hm : s.blockMoves) (hr : s.run = .waiting) (hw : s.wakes = true) :
    step s = step { s with run := .running } := by
  rw [step_of_waiting hm hr, step_of_running (s := { s with run := .running }) hm rfl]
  exact if_pos hw

theorem step_of_not_wakes (hm : s.blockMoves) (hr : s.run = .waiting) (hw : s.wakes = false) :
    step s = .next s.atMove := by
  rw [step_of_waiting hm hr]
  exact if_neg (Bool.eq_false_iff.1 hw)

end

/-- Settles O9: the branches of the boundary step, the two entries by `State.enterFrame_entered`. -/
theorem boundaryPriority : Obligations.BoundaryPriority := by
  intro s hm hr
  refine ⟨step_of_stops hm hr, fun hreset hpend hhalt => ?_⟩
  have hlow : s.atMove.linesLow := ⟨hreset, hpend, hhalt⟩
  rw [step_of_running hm hr]
  refine ⟨fun hn => ?_, fun hn hq hi => ?_, fun hn hirq => ?_⟩
  · exact ⟨_, State.stepRunning_of_nmi hlow hn, State.enterFrame_entered _ _⟩
  · exact ⟨_, State.stepRunning_of_irq hlow hn hq hi, State.enterFrame_entered _ _⟩
  · exact State.stepRunning_of_quiet (s := s.atMove) ⟨hreset, hpend, hhalt, hn, hirq⟩

/-- Settles O10: the two conditions are the wake condition and its negation. -/
theorem waitingStep : Obligations.WaitingStep := by
  refine fun s hm hr => ⟨fun hw => step_of_wakes hm hr (State.wakes_iff.2 hw), fun hn hirq hreset => ?_⟩
  refine step_of_not_wakes hm hr (Bool.eq_false_iff.2 fun hw => ?_)
  rcases State.wakes_iff.1 hw with hn' | ⟨hq, hi⟩ | ⟨hl, hp⟩
  · simp [hn] at hn'
  · simp [hq, hi] at hirq
  · rcases hl with hl | hl <;> simp [hl, hp] at hreset

/-- The reset action loads PC from its vector, sets I, and clears the pending RESET and, by parameter, the latch (R463). -/
theorem State.resetAction_eq (s : State) :
    s.resetAction =
      { s with
        pc := s.resetAction.pc
        cc := setCc s.cc maskI maskI
        nmiLatch := s.nmiLatch && !s.config.nmiClearedByReset
        resetPending := false
        bus := s.resetAction.bus
        deviceLog := s.resetAction.deviceLog } := rfl

theorem State.resetAction_vectored (s : State) : s.vectored s.resetAction [] resetVector :=
  s.loadVector_vectored resetVector

/-- Settles O11: the branches of the halted step; the reset action is a vector load with I set. -/
theorem haltedAndOffSteps : Obligations.HaltedAndOffSteps := by
  refine fun s hm => ⟨step_of_halted_line hm, fun hr hreset hhalt hp => ?_, fun hr hreset hhalt hp => ?_,
    step_of_off hm⟩ <;> rw [step_of_halted hm hr]
  · exact State.stepHalted_of_low (s := s.atMove) hreset hhalt hp
  · have hcc := ccIs_setCc s.cc maskI maskI
    refine ⟨_, State.stepHalted_of_pending (s := s.atMove) hreset hhalt hp, ?_, hcc, s.atMove.resetAction_vectored⟩
    rw [State.resetAction_eq]
    rfl

/-- Settles O12: the host's move is made at once. -/
theorem hostInteractions : Obligations.HostInteractions := by
  refine fun s => ⟨step_of_host, step_of_host, step_of_host, step_of_host, step_of_host, step_of_host, step_of_host,
    step_of_host, fun hm hr => ?_, fun hm hr => ?_⟩
  · rw [step_of_host hm, State.hostAction, State.powerOn_of_ne_off (s := s.atMove) hr]
  · rw [step_of_host hm]
    exact congrArg _ (if_pos hr)

/-! Every step answers (R401). -/

/-- Every instruction answers a next state: each arm of `exec` ends in one. -/
theorem exec_answers (i : Instr) (s : State) : ∃ t, exec i s = .next t := by
  cases i <;> exact ⟨_, rfl⟩

theorem State.stepRunning_answers (s : State) : ∃ t, s.stepRunning = .next t := by
  rcases s.boundary_cases with hl | ⟨hl, hn⟩ | ⟨hl, hn, hq, hi⟩ | hq
  · exact ⟨_, State.stepRunning_of_stops hl⟩
  · exact ⟨_, State.stepRunning_of_nmi hl hn⟩
  · exact ⟨_, State.stepRunning_of_irq hl hn hq hi⟩
  · rw [State.stepRunning_of_quiet hq]
    exact exec_answers _ _

theorem State.stepHalted_answers (s : State) : ∃ t, s.stepHalted = .next t := by
  unfold State.stepHalted
  split <;> exact ⟨_, rfl⟩

theorem step_answers (s : State) : ∃ t, step s = .next t := by
  rcases s.host_or_blockMoves with ⟨act, hm⟩ | hm
  · exact ⟨_, step_of_host hm⟩
  · cases hr : s.run
    case off => exact ⟨_, step_of_off hm hr⟩
    case running => exact step_of_running hm hr ▸ State.stepRunning_answers _
    case waiting =>
      cases hw : s.wakes
      case false => exact ⟨_, step_of_not_wakes hm hr hw⟩
      case true =>
        rw [step_of_wakes hm hr hw, step_of_running (s := { s with run := .running }) hm rfl]
        exact State.stepRunning_answers _
    case halted => exact step_of_halted hm hr ▸ State.stepHalted_answers _

section
variable {s t : State}

theorem State.powerOn_config_moves (s : State) : s.powerOn.config = s.config ∧ s.powerOn.moves = s.moves := by
  unfold State.powerOn State.initRegisters
  split
  · split <;> exact ⟨rfl, rfl⟩
  · exact ⟨rfl, rfl⟩

/-- No host interaction changes a parameter or the coming moves. -/
theorem State.hostAction_config_moves (s : State) (act : HostAction) :
    (s.hostAction act).config = s.config ∧ (s.hostAction act).moves = s.moves := by
  cases act
  case powerOn => exact s.powerOn_config_moves
  case cancelWait =>
    simp only [State.hostAction]
    split <;> exact ⟨rfl, rfl⟩
  all_goals exact ⟨rfl, rfl⟩

/-- A step keeps the parameters and takes one move off the list (00_scope.md R12, R441). -/
theorem State.StepsTo.config_moves (h : s.StepsTo t) : t.config = s.config ∧ t.moves = s.moves.tail := by
  cases h with
  | host act => exact s.atMove.hostAction_config_moves act
  | nmi | irq => exact ⟨State.enterFrame_config .., State.enterFrame_moves ..⟩
  | instr hm hr hq he =>
    obtain ⟨-, -, -, -, -, -, hmoves, hconfig, -⟩ := controlStateFrame _ _ _ he
    rw [State.fetchInstr_snd] at hmoves hconfig
    exact ⟨hconfig, hmoves⟩
  | idle | halt | resume | reset => exact ⟨rfl, rfl⟩

end

/-- Settles O18: `step_answers` and `exec_answers`; the parameters and moves by the kind of the step. -/
theorem stepAlwaysAnswers : Obligations.StepAlwaysAnswers := by
  refine ⟨fun s => ?_, exec_answers⟩
  obtain ⟨t, ht⟩ := step_answers s
  exact ⟨t, ht, (step_stepsTo ht).config_moves⟩

/-- Settles O19: SWI is an entry through its vector. -/
theorem swiEntersFrame : Obligations.SwiEntersFrame :=
  fun s => ⟨s.enterFrame swiVector, rfl, s.enterFrame_entered swiVector⟩

/-! The stack frame, written by an entry and read back by a return (R415, R419). -/

section
variable {s u : State}

theorem State.afterStores_concat (s : State) (l : List (Word × Byte)) (q : Word × Byte) (b : Nat) :
    s.afterStores (l ++ [q]) b =
      if b = q.1.toNat ∧ s.kindAt q.1 = .ram then q.2 else s.afterStores l b := by
  rw [State.afterStores, List.foldl_concat, ← State.afterStores]

/-- RAM holds every byte of a list of stores to different addresses. -/
theorem State.afterStores_of_mem {l : List (Word × Byte)} (hram : s.allRam (l.map Prod.fst))
    (hl : (l.map Prod.fst).Nodup) {p : Word × Byte} (hp : p ∈ l) : s.afterStores l p.1.toNat = p.2 := by
  induction l using List.reverseRecOn with
  | nil => cases hp
  | append_singleton l q ih =>
    rw [List.map_append, List.nodup_append] at hl
    obtain ⟨hl, -, hne⟩ := hl
    have hq : s.kindAt q.1 = .ram := hram _ (List.mem_map_of_mem (by simp))
    rw [State.afterStores_concat]
    rcases List.mem_append.1 hp with hp | hp
    · have hpq : p.1 ≠ q.1 := hne _ (List.mem_map_of_mem hp) _ (List.mem_map_of_mem (List.mem_singleton_self q))
      rw [if_neg fun e => hpq (BitVec.eq_of_toNat_eq e.1)]
      exact ih (fun a ha => hram a (by simp [ha])) hl hp
    · rw [List.mem_singleton.1 hp, if_pos ⟨rfl, hq⟩]

/-- The seven bytes of a frame lie apart, wherever SP is. -/
theorem State.frame_nodup (s : State) : (s.frame.map Prod.fst).Nodup := by
  have h : ([1, 0, 3, 2, 4, 5, 6].map (s.sp - ·) : List Word).Nodup :=
    List.Nodup.map sub_right_injective (by decide)
  simpa [State.frame] using h

/-- After an entry a pull gives the byte of the frame that lies where it reads. -/
theorem State.pulledByte_of_entered {v : Word} (hram : s.allRam (s.frame.map Prod.fst)) (h : s.entered u v)
    (pc' : Word) {k : Nat} {a : Word} {x : Byte} (ha : s.sp - 7 + BitVec.ofNat 16 (k + 1) = a)
    (hx : (a, x) ∈ s.frame) : ({ u with pc := pc' } : State).pulledByte k = x := by
  subst ha
  obtain ⟨hu, -, hstored, -⟩ := h
  have hsp : u.sp = s.sp - 7 := congrArg State.sp hu
  have hcfg : u.config = s.config := by rw [hu]
  have hk : u.kindAt (u.sp + BitVec.ofNat 16 (k + 1)) = .ram := by
    rw [State.kindAt_congr hcfg, hsp]
    exact hram _ (List.mem_map_of_mem hx)
  rw [State.pulledByte_of_ne_device (s := { u with pc := pc' }) (State.ne_device_of_ram hk)]
  exact hsp ▸ (hstored _).trans (State.afterStores_of_mem hram s.frame_nodup hx)

/-- The flags of a byte image are those it was made of (10_state.md R41). -/
theorem ccOfByte_append (high : BitVec 2) (cc : Cc) : ccOfByte (high ++ cc) = cc := by
  rw [ccOfByte_eq_setWidth, BitVec.setWidth_append_eq_right]

end

/-- Settles O20: the seven pulls of RTI give back the seven bytes of the frame. -/
theorem entryThenRtiRestores : Obligations.EntryThenRtiRestores := by
  intro s u v pc' hram h
  have hsp : u.sp = s.sp - 7 := congrArg State.sp h.1
  have hpull {k : Nat} {a : Word} {x : Byte} := State.pulledByte_of_entered hram h pc' (k := k) (a := a) (x := x)
  have hcc := hpull (k := 0) (a := s.sp - 6) (x := s.config.ccHighBits ++ s.cc) (by bv_omega) (by simp [State.frame])
  have hb := hpull (k := 1) (a := s.sp - 5) (x := s.b) (by bv_omega) (by simp [State.frame])
  have ha := hpull (k := 2) (a := s.sp - 4) (x := s.a) (by bv_omega) (by simp [State.frame])
  have hxh := hpull (k := 3) (a := s.sp - 3) (x := hiByte s.ix) (by bv_omega) (by simp [State.frame])
  have hxl := hpull (k := 4) (a := s.sp - 2) (x := loByte s.ix) (by bv_omega) (by simp [State.frame])
  have hph := hpull (k := 5) (a := s.sp - 1) (x := hiByte s.pc) (by bv_omega) (by simp [State.frame])
  have hpl := hpull (k := 6) (a := s.sp) (x := loByte s.pc) (by bv_omega) (by simp [State.frame])
  have hrti := State.returnFromInterrupt_eq { u with pc := pc' }
  rw [hcc, hb, ha, hxh, hxl, hph, hpl, ccOfByte_append, wordOf_bytes, wordOf_bytes] at hrti
  refine ⟨State.returnFromInterrupt _, rfl, ?_⟩
  rw [hrti]
  have hup : (State.afterPulls { u with pc := pc' } 7).sp = s.sp := by
    rw [State.afterPulls_sp, hsp]
    exact BitVec.sub_add_cancel s.sp 7
  exact ⟨rfl, rfl, rfl, rfl, rfl, hup⟩

/-! How much bus traffic a step makes (20_memory.md R84, R86). -/

section
variable {s t : State}

theorem State.Transacts.bus_length {l : List Touch} (h : s.Transacts l t) :
    t.bus.length = s.bus.length + l.length := by
  obtain ⟨made, hb, hl⟩ := h.bus
  rw [hb, ← hl, List.length_append, List.length_map]

/-- The fetch of an instruction makes one read for each byte of its encoding. -/
theorem State.fetchInstr_bus_length (s : State) :
    s.fetchInstr.2.bus.length = s.bus.length + (encode s.fetchInstr.1).length := by
  have hop : s.fetchInstr = s.fetch8.2.fetchOperands s.fetch8.1 := rfl
  rw [hop]
  unfold State.fetchOperands
  rcases operandBytes_cases (formOf s.fetch8.1) with hn | hn | hn <;> simp [hn, encode_build]

/-- No row of the table of R86 is longer than that of SWI: one fetch, seven writes and two reads. -/
theorem encode_touches_length_le (i : Instr) (s : State) : (encode i).length + (touches i s).length ≤ 10 := by
  cases i
  case ldaa src | ldab src | adda src | addb src | adca src | adcb src | suba src | subb src | sbca src | sbcb src
      | cmpa src | cmpb src | anda src | andb src | bita src | bitb src | oraa src | orab src | eora src | eorb src
      | ldx src | lds src | cpx src =>
    cases src <;> exact Nat.le_of_ble_eq_true rfl
  case staa dst | stab dst | stx dst | sts dst => cases dst <;> exact Nat.le_of_ble_eq_true rfl
  case clr ref | neg ref | inc ref | dec ref | tst ref | com ref | asl ref | asr ref | lsr ref | rol ref | ror ref
      | jmp ref | jsr ref =>
    cases ref <;> exact Nat.le_of_ble_eq_true rfl
  all_goals exact Nat.le_of_ble_eq_true rfl

/-- Of the host's interactions only powerOn makes transactions, the two reads of the vector. -/
theorem State.hostAction_bus_length_le (s : State) (act : HostAction) :
    (s.hostAction act).bus.length ≤ s.bus.length + 2 := by
  cases act
  case powerOn =>
    simp only [State.hostAction, State.powerOn, State.initRegisters]
    split
    · split <;> simp
    · exact Nat.le_add_right ..
  case cancelWait =>
    simp only [State.hostAction]
    split <;> exact Nat.le_add_right ..
  all_goals exact Nat.le_add_right ..

theorem State.StepsTo.bus_length_le (h : s.StepsTo t) : t.bus.length ≤ 10 := by
  have hempty : s.atMove.bus.length = 0 := rfl
  cases h with
  | host act =>
    have hbus := s.atMove.hostAction_bus_length_le act
    omega
  | nmi | irq =>
    rw [(State.enterFrame_transacts _ _).bus_length]
    exact Nat.le_of_ble_eq_true rfl
  | instr hm hr hq he =>
    have hle := encode_touches_length_le s.atMove.fetchInstr.1 s.atMove.fetchInstr.2
    rw [(exec_transacts he).bus_length, State.fetchInstr_bus_length]
    omega
  | idle | halt | resume | reset => exact Nat.le_of_ble_eq_true rfl

/-- The host cannot halt the block, nor can an entry or an instruction: a step to Halted does nothing else. -/
theorem State.StepsTo.eq_of_halts (h : s.StepsTo t) (hs : s.run ≠ .halted) (ht : t.run = .halted) :
    t = { s.atMove with run := .halted } := by
  have hne : t.run ≠ s.run := ht ▸ hs.symm
  cases h with
  | halt => rfl
  | host act =>
    rcases State.hostAction_run (s := s.atMove) hne with ⟨-, hr, -⟩ | ⟨-, hr, -⟩ <;> simp [hr] at ht
  | nmi | irq =>
    rw [State.enterFrame_run] at ht
    cases ht
  | instr hm hr hq he =>
    obtain ⟨-, hw⟩ := exec_run he (by simpa using hne)
    simp [hw] at ht
  | idle => exact absurd rfl hne
  | resume | reset => cases ht

end

/-- Settles O60: the traffic by the kind of the step; a move that is stopped, or stops, leaves the rest alone. -/
theorem stoppedBlockIsSilent : Obligations.StoppedBlockIsSilent := by
  intro s t h
  have hnext {u : State} (hu : step s = .next u) : t = u := Host.Outcome.next.inj (h.symm.trans hu)
  refine ⟨(step_stepsTo h).bus_length_le, fun hm hstop => ?_, fun hm hl hr => ?_⟩
  · have ht : t = { s.atMove with run := t.run } := by
      rcases hstop with hr | ⟨hr, hl⟩ | ⟨hr, hw⟩ | ⟨hs, ht⟩
      · rw [hnext (step_of_off hm hr)]
      · rw [hnext (step_of_halted_line hm hr hl)]
      · rw [hnext (step_of_not_wakes hm hr hw)]
      · rw [(step_stepsTo h).eq_of_halts hs ht]
    rw [ht]
    exact ⟨rfl, rfl, rfl, rfl, rfl, fun r => by cases r <;> rfl⟩
  · rcases hr with hr | hack
    · rw [hnext (step_of_stops hm hr (.inl hl))]
      exact ⟨rfl, rfl⟩
    · have hrun : s.run = .halted ∨ s.run = .off := by simpa [State.haltAck] using hack
      have ht : t = s.atMove := hnext <| hrun.elim (step_of_halted_line hm · (.inl hl)) (step_of_off hm)
      rw [ht]
      exact ⟨hack, rfl⟩

end Sys2Proof.Machine
end

section
/-!
Power-on and the reset state (70_reset_and_hazards.md R460, R461): `State.powerOn_eq` says once what powerOn does, and the
family's statements read it off.
-/

namespace Sys2Proof.Machine

section
variable {s : State}

/-- The I a merge keeps does not matter once I is set. -/
theorem setCc_setCc_maskI (x y : Cc) : setCc (setCc x maskI y) maskI maskI = setCc x maskI maskI := by
  apply cc_ext <;> simp

/-- PowerOn of an Off block: the vector load of the state before, I set, and INIT_STATE the first time (R461). -/
theorem State.powerOn_eq (h : s.run = .off) :
    s.powerOn =
      { s.loadVector resetVector with
        a := if s.poweredOnce then s.a else s.config.init.a
        b := if s.poweredOnce then s.b else s.config.init.b
        ix := if s.poweredOnce then s.ix else s.config.init.ix
        sp := if s.poweredOnce then s.sp else s.config.init.sp
        cc := setCc (if s.poweredOnce then s.cc else s.config.init.cc) maskI maskI
        run := .running
        resetPending := false
        poweredOnce := true } := by
  rw [State.powerOn, if_pos h, State.initRegisters]
  cases hp : s.poweredOnce <;> simp only [Bool.false_eq_true, if_false, if_true]
  case false =>
    rw [← setCc_setCc_maskI s.config.init.cc s.cc]
    rfl
  case true =>
    rw [← hp]
    rfl

theorem State.powerOn_vectored (h : s.run = .off) : s.vectored s.powerOn [] resetVector := by
  rw [State.powerOn_eq h]
  exact s.loadVector_vectored resetVector

/-! Blank memory with RAM everywhere reads the unlisted byte at every address (R70, R72). -/

theorem State.load8_of_blank (hmem : s.mem = []) (hregions : s.config.regions = []) (addr : Word) :
    s.load8 addr = (unlistedByte, { s with bus := s.bus ++ [.read addr unlistedByte] }) := by
  have hram : s.kindAt addr = .ram := by rw [State.kindAt, hregions, busKind]
  simp [State.load8, State.byteAt, State.logAccess, State.deviceLogAfter, hram, hmem, Memory.read]

theorem State.loadVector_of_blank (hmem : s.mem = []) (hregions : s.config.regions = []) (v : Word) :
    s.loadVector v =
      { s with
        pc := wordOf unlistedByte unlistedByte
        bus := s.bus ++ [.read v unlistedByte, .read (v + 1) unlistedByte] } := by
  simp [State.loadVector, State.load16, State.load8_of_blank, hmem, hregions]

end

/-- Settles O13: the step is the host's powerOn, read off its equation. -/
theorem powerOnSequence : Obligations.PowerOnSequence := by
  intro s hm hr
  refine ⟨s.atMove.powerOn, step_of_host hm, ?_, ?_, State.powerOn_vectored (s := s.atMove) hr⟩
  · rw [State.powerOn_eq (s := s.atMove) hr]
    rfl
  · rw [State.powerOn_eq (s := s.atMove) hr]
    exact ccIs_setCc (if s.poweredOnce then s.cc else s.config.init.cc) maskI maskI

/-- Settles O15: the equation of powerOn, with the vector read from blank RAM. -/
theorem firstPowerOnGivesReset : Obligations.FirstPowerOnGivesReset := by
  refine ⟨fun s hr hp hmem hconfig hirq hnmi hreset hhalt hreports hlog hmoves => ?_, rfl, rfl, rfl, rfl⟩
  have hload := State.loadVector_of_blank (s := s.atMove) hmem (congrArg Config.regions hconfig) resetVector
  rw [step_of_host (act := .powerOn) (congrArg List.head? hmoves), State.hostAction, State.powerOn_eq (s := s.atMove) hr,
    hload]
  have hpc : wordOf unlistedByte unlistedByte = State.reset.pc := by decide
  have hcc : setCc defaultConfig.init.cc maskI maskI = State.reset.cc := by decide
  simp only [State.atMove, hp, hmem, hconfig, hirq, hnmi, hreset, hhalt, hreports, hlog, hmoves, Bool.false_eq_true,
    if_false, hpc, hcc]
  rfl

/-- Settles O16: blank memory is canonical, and the reset state has been powered on. -/
theorem resetStateHasInvariant : Obligations.ResetStateHasInvariant := ⟨Memory.wf_nil, .inr rfl⟩

end Sys2Proof.Machine
end

section
/-!
Words of the encoding and the illegal opcodes (30_encoding.md R101, R118, R121): what the decoder reads is what the encoder
writes.
-/

namespace Sys2Proof.Machine

/-- The decoder reads an instruction from the word the encoder writes for it. -/
theorem decode_of_encode {i : Instr} {word : List Byte} (hwf : i.wellFormed = true) (h : encode i = word) :
    decode word = .ok i [] := by
  rw [← h, ← decode_encode [] hwf, List.append_nil]

/-- A sentinel is decoded from its own opcode, and only from an illegal one (R118, R121). -/
theorem mem_illegalOpcodes_of_decode {op x : Byte} {bytes rest : List Byte}
    (h : decode (op :: bytes) = .ok (.illegal x) rest) : op ∈ illegalOpcodes := by
  obtain ⟨hwf, hbytes⟩ := encode_of_decode h
  obtain ⟨rfl, -⟩ := List.cons.inj hbytes
  exact List.contains_iff_mem.1 hwf

/-- Settles O4: an illegal opcode has the sentinel in its cell of the grid; the converse is that of the encoder. -/
theorem illegalOpcodesAreTheListed : Obligations.IllegalOpcodesAreTheListed :=
  ⟨rfl, by decide, fun op b1 b2 =>
    ⟨fun h => decode_inh [b1, b2] (formOf_illegal op h), fun h _ _ hd => h (mem_illegalOpcodes_of_decode hd)⟩⟩

/-- Settles O5: each word is the one the encoder writes for the instruction. -/
theorem sampleWordsDecode : Obligations.SampleWordsDecode := by
  unfold Obligations.SampleWordsDecode
  and_intros <;> exact decode_of_encode rfl rfl

end Sys2Proof.Machine
end

section
/-!
Decimal addition (40_alu.md R156, R157): the lower correction carries the sum of the units into the tens, the upper one the
hundred into C.
-/

namespace Sys2Proof.Machine

/-- The BCD byte of a number below 100: the tens in the high digit, the units in the low one. -/
def bcd (n : Nat) : Byte := BitVec.ofNat 8 (n / 10 * 16 + n % 10)

theorem toNat_bcd {n : Nat} (h : n < 100) : (bcd n).toNat = n / 10 * 16 + n % 10 := by
  rw [bcd, BitVec.toNat_ofNat]
  omega

/-- The lower correction of DAA (R156). -/
def lowerAdjusted (a : Byte) (h : Bool) : Nat := if a.toNat % 16 > 9 ∨ h = true then a.toNat + 0x06 else a.toNat

theorem flagC_daa8 (rule : DaaVRule) (a : Byte) (h c v : Bool) :
    flagC (daa8 rule a h c v).new = decide (lowerAdjusted a h > 0x9F ∨ c = true) := by
  rw [daa8_eq]
  exact flagC_packCc ..

theorem toNat_daa8 (rule : DaaVRule) (a : Byte) (h c v : Bool) :
    (daa8 rule a h c v).r.toNat =
      (if flagC (daa8 rule a h c v).new then lowerAdjusted a h + 0x60 else lowerAdjusted a h) % 256 := by
  rw [flagC_daa8, daa8_eq]
  rfl

/-- The upper correction takes the hundred out of the digits and into C. -/
theorem daa8_of_lowerAdjusted {rule : DaaVRule} {x : Byte} {h c v : Bool} {n : Nat} (hn : n < 200)
    (hlow : lowerAdjusted x h + (if c then 256 else 0) = n / 10 * 16 + n % 10) :
    (daa8 rule x h c v).r = bcd (n % 100) ∧ flagC (daa8 rule x h c v).new = decide (100 ≤ n) := by
  have hcarry : flagC (daa8 rule x h c v).new = decide (100 ≤ n) := by
    rw [flagC_daa8, decide_eq_decide]
    cases c <;> simp only [Bool.false_eq_true, if_false, if_true, or_false, or_true, true_iff] at hlow ⊢ <;> omega
  refine ⟨BitVec.eq_of_toNat_eq ?_, hcarry⟩
  rw [toNat_daa8, hcarry, toNat_bcd (Nat.mod_lt n (by decide))]
  simp only [decide_eq_true_eq]
  split at hlow <;> split <;> omega

section
variable {a b : Nat}

/-- The lower correction of the binary sum of two BCD bytes moves a sum of units from 10 on to the tens: what is left is
the sum of the digits, but for a carry out of the byte. -/
theorem lowerAdjusted_add8_bcd (ha : a < 100) (hb : b < 100) :
    lowerAdjusted (add8 (bcd a) (bcd b) false).r (flagH (add8 (bcd a) (bcd b) false).new) +
        (if flagC (add8 (bcd a) (bcd b) false).new then 256 else 0) =
      (a + b) / 10 * 16 + (a + b) % 10 := by
  obtain ⟨hH, -, -, -, -, hC⟩ := ccIs_add8 (bcd a) (bcd b) false
  have hr := toNat_add8 (bcd a) (bcd b) false
  simp only [toNat_bcd ha, toNat_bcd hb, Bool.toNat_false] at hH hC hr
  rw [lowerAdjusted, hH, hC, hr]
  simp only [decide_eq_true_eq]
  split <;> split <;> omega

end

/-- Settles O24: a sum of two numbers below 100 is below 200. -/
theorem daaGivesDecimalSum : Obligations.DaaGivesDecimalSum :=
  fun _ _ _ _ ha hb => daa8_of_lowerAdjusted (by omega) (lowerAdjusted_add8_bcd ha hb)

end Sys2Proof.Machine
end
